-- ==== Sys2Proof/Word.lean ====
section
/-! DEFINITION. The word type of MBIC: the 8-bit cell of the Byte Buffer (spec 10_state.md R16, 20_memory.md R19).
The other widths of the block are the widths of its ports; they stand where the ports are declared (Syntax.lean, Machine/State.lean). -/

namespace Sys2Proof

/-- One cell of the Byte Buffer, "an 8-bit cell" (R16, R19). -/
abbrev Byte := BitVec 8

end Sys2Proof
end

