-- ==== Sys2Proof/Config.lean ====
section
/-! DEFINITION. The constants of MBIC that no command, reset or port changes (spec 00_scope.md R5, R6, R7), and the two
free values of the model. -/

namespace Sys2Proof

/-- `MAXSAFE`, the safe-integer bound 2^53 - 1 (R5). -/
def Config.maxSafe : Int := 9007199254740991

/-- `SHIFT16`, the multiplier of the 3-byte split (R6). -/
def Config.shift16 : Int := 65536

/-- `SHIFT32`, formed as the product of two 16-bit shifts (R6). -/
def Config.shift32 : Int := 65536 * 65536

/-- The largest BUF_LEN that the 31-bit port `BLEN` carries (R7, R54). -/
def Config.maxBufLen : Nat := 2147483647

/-- The largest width the 4-bit WIDTH field carries (R49). -/
def Config.maxWidthCode : Nat := 15

/-- FREE VALUE. The bytes of `draw()` (00_scope.md §5, R69, U1): "an unconstrained 8-bit value the model must not fix: a
fresh free input for every use". The n-th use takes `draw n`; State.draws counts the uses. It has no body, so nothing can
be proved of the bytes it gives. (Assumption 5; DESIGN CHOICE in its form, safe.) -/
opaque Config.draw : Nat → Byte

/-- FREE VALUE. What reset during a write leaves in one cell of its region: true the new value, false the old one,
"unspecified which and independently per cell" (70_reset_and_hazards.md R182, U8). It has no body. (Assumption 11; DESIGN
CHOICE in its form, safe.) -/
opaque Config.settles : Nat → Bool

end Sys2Proof
end

