-- ==== Sys2Proof/Syntax.lean ====
section
/-! DEFINITION. The commands of MBIC as its host writes them (spec 30_encoding.md R56, R61): one constructor for each of the
70 rows of opcode_table.json, its operands in the order of the call syntax (R61) less the buffer, which the state holds. The
operands offset, value and width are the integers of the call; which of them a request can carry is checked in
WellFormed.lean. The request itself, as it stands on the ports, is the structure Request (R43). -/

namespace Sys2Proof

/-- `DIR`, the read/write intent (R45). -/
inductive Dir where
  | read
  | write
  deriving DecidableEq, Repr

/-- `SGN`, the signedness (R46). -/
inductive Signedness where
  | unsigned
  | signed
  deriving DecidableEq, Repr

/-- `END`, the byte order (R47, R21). -/
inductive Endian where
  | be
  | le
  deriving DecidableEq, Repr

/-- `LEN`, strict or lenient mode; a property of one command, not of the block (R48, R178). -/
inductive Mode where
  | strict
  | lenient
  deriving DecidableEq, Repr

/-- The request ports of one command (R43): CMD (R44), OFFSET (R51), WVAL (R52). BLEN is the length of the buffer the state
holds (R54, U5). -/
structure Request where
  cmd    : BitVec 8
  offset : BitVec 32
  wval   : BitVec 72
  deriving DecidableEq, Repr

/-- The 70 instructions (R56, R57). -/
inductive Instr where
  -- the two fully generic instructions (R73, R74)
  /-- R73: CMD = `0sen wwww`. -/
  | read (offset : Int) (width : Nat) (endian : Endian) (sgn : Signedness) (mode : Mode)
  /-- R74: CMD = `1sen wwww`. -/
  | write (offset : Int) (width : Nat) (value : Int) (endian : Endian) (sgn : Signedness) (mode : Mode)
  -- the eight generic instructions (R75 to R82)
  /-- R75: CMD = `000n wwww`. -/
  | readUIntBE (width : Nat) (offset : Int) (mode : Mode)
  /-- R76: CMD = `001n wwww`. -/
  | readUIntLE (width : Nat) (offset : Int) (mode : Mode)
  /-- R77: CMD = `010n wwww`. -/
  | readIntBE (width : Nat) (offset : Int) (mode : Mode)
  /-- R78: CMD = `011n wwww`. -/
  | readIntLE (width : Nat) (offset : Int) (mode : Mode)
  /-- R79: CMD = `100n wwww`. -/
  | writeUIntBE (value : Int) (width : Nat) (offset : Int) (mode : Mode)
  /-- R80: CMD = `101n wwww`. -/
  | writeUIntLE (value : Int) (width : Nat) (offset : Int) (mode : Mode)
  /-- R81: CMD = `110n wwww`. -/
  | writeIntBE (value : Int) (width : Nat) (offset : Int) (mode : Mode)
  /-- R82: CMD = `111n wwww`. -/
  | writeIntLE (value : Int) (width : Nat) (offset : Int) (mode : Mode)
  -- the 8-bit instructions
  /-- R89: CMD = `00en 0001`. -/
  | readUInt8 (offset : Int) (mode : Mode)
  /-- R90: CMD = `01en 0001`. -/
  | readInt8 (offset : Int) (mode : Mode)
  /-- R91: CMD = `10en 0001`. -/
  | writeUInt8 (value : Int) (offset : Int) (mode : Mode)
  /-- R92: CMD = `11en 0001`. -/
  | writeInt8 (value : Int) (offset : Int) (mode : Mode)
  -- the 16-bit instructions
  /-- R93: CMD = `000n 0010`. -/
  | readUInt16BE (offset : Int) (mode : Mode)
  /-- R94: CMD = `001n 0010`. -/
  | readUInt16LE (offset : Int) (mode : Mode)
  /-- R95: CMD = `010n 0010`. -/
  | readInt16BE (offset : Int) (mode : Mode)
  /-- R96: CMD = `011n 0010`. -/
  | readInt16LE (offset : Int) (mode : Mode)
  /-- R97: CMD = `100n 0010`. -/
  | writeUInt16BE (value : Int) (offset : Int) (mode : Mode)
  /-- R98: CMD = `101n 0010`. -/
  | writeUInt16LE (value : Int) (offset : Int) (mode : Mode)
  /-- R99: CMD = `110n 0010`. -/
  | writeInt16BE (value : Int) (offset : Int) (mode : Mode)
  /-- R100: CMD = `111n 0010`. -/
  | writeInt16LE (value : Int) (offset : Int) (mode : Mode)
  -- the 24-bit instructions
  /-- R123: CMD = `000n 0011`. -/
  | readUInt24BE (offset : Int) (mode : Mode)
  /-- R124: CMD = `001n 0011`. -/
  | readUInt24LE (offset : Int) (mode : Mode)
  /-- R125: CMD = `010n 0011`. -/
  | readInt24BE (offset : Int) (mode : Mode)
  /-- R126: CMD = `011n 0011`. -/
  | readInt24LE (offset : Int) (mode : Mode)
  /-- R127: CMD = `100n 0011`. -/
  | writeUInt24BE (value : Int) (offset : Int) (mode : Mode)
  /-- R128: CMD = `101n 0011`. -/
  | writeUInt24LE (value : Int) (offset : Int) (mode : Mode)
  /-- R129: CMD = `110n 0011`. -/
  | writeInt24BE (value : Int) (offset : Int) (mode : Mode)
  /-- R130: CMD = `111n 0011`. -/
  | writeInt24LE (value : Int) (offset : Int) (mode : Mode)
  -- the 32-bit instructions
  /-- R101: CMD = `000n 0100`. -/
  | readUInt32BE (offset : Int) (mode : Mode)
  /-- R102: CMD = `001n 0100`. -/
  | readUInt32LE (offset : Int) (mode : Mode)
  /-- R103: CMD = `010n 0100`. -/
  | readInt32BE (offset : Int) (mode : Mode)
  /-- R104: CMD = `011n 0100`. -/
  | readInt32LE (offset : Int) (mode : Mode)
  /-- R105: CMD = `100n 0100`. -/
  | writeUInt32BE (value : Int) (offset : Int) (mode : Mode)
  /-- R106: CMD = `101n 0100`. -/
  | writeUInt32LE (value : Int) (offset : Int) (mode : Mode)
  /-- R107: CMD = `110n 0100`. -/
  | writeInt32BE (value : Int) (offset : Int) (mode : Mode)
  /-- R108: CMD = `111n 0100`. -/
  | writeInt32LE (value : Int) (offset : Int) (mode : Mode)
  -- the 40-bit instructions
  /-- R132: CMD = `000n 0101`. -/
  | readUInt40BE (offset : Int) (mode : Mode)
  /-- R133: CMD = `001n 0101`. -/
  | readUInt40LE (offset : Int) (mode : Mode)
  /-- R134: CMD = `010n 0101`. -/
  | readInt40BE (offset : Int) (mode : Mode)
  /-- R135: CMD = `011n 0101`. -/
  | readInt40LE (offset : Int) (mode : Mode)
  /-- R136: CMD = `100n 0101`. -/
  | writeUInt40BE (value : Int) (offset : Int) (mode : Mode)
  /-- R137: CMD = `101n 0101`. -/
  | writeUInt40LE (value : Int) (offset : Int) (mode : Mode)
  /-- R138: CMD = `110n 0101`. -/
  | writeInt40BE (value : Int) (offset : Int) (mode : Mode)
  /-- R139: CMD = `111n 0101`. -/
  | writeInt40LE (value : Int) (offset : Int) (mode : Mode)
  -- the 48-bit instructions
  /-- R141: CMD = `000n 0110`. -/
  | readUInt48BE (offset : Int) (mode : Mode)
  /-- R142: CMD = `001n 0110`. -/
  | readUInt48LE (offset : Int) (mode : Mode)
  /-- R143: CMD = `010n 0110`. -/
  | readInt48BE (offset : Int) (mode : Mode)
  /-- R144: CMD = `011n 0110`. -/
  | readInt48LE (offset : Int) (mode : Mode)
  /-- R145: CMD = `100n 0110`. -/
  | writeUInt48BE (value : Int) (offset : Int) (mode : Mode)
  /-- R146: CMD = `101n 0110`. -/
  | writeUInt48LE (value : Int) (offset : Int) (mode : Mode)
  /-- R147: CMD = `110n 0110`. -/
  | writeInt48BE (value : Int) (offset : Int) (mode : Mode)
  /-- R148: CMD = `111n 0110`. -/
  | writeInt48LE (value : Int) (offset : Int) (mode : Mode)
  -- the 56-bit instructions
  /-- R150: CMD = `000n 0111`. -/
  | readUInt56BE (offset : Int) (mode : Mode)
  /-- R151: CMD = `001n 0111`. -/
  | readUInt56LE (offset : Int) (mode : Mode)
  /-- R152: CMD = `010n 0111`. -/
  | readInt56BE (offset : Int) (mode : Mode)
  /-- R153: CMD = `011n 0111`. -/
  | readInt56LE (offset : Int) (mode : Mode)
  /-- R154: CMD = `100n 0111`. -/
  | writeUInt56BE (value : Int) (offset : Int) (mode : Mode)
  /-- R155: CMD = `101n 0111`. -/
  | writeUInt56LE (value : Int) (offset : Int) (mode : Mode)
  /-- R156: CMD = `110n 0111`. -/
  | writeInt56BE (value : Int) (offset : Int) (mode : Mode)
  /-- R157: CMD = `111n 0111`. -/
  | writeInt56LE (value : Int) (offset : Int) (mode : Mode)
  -- the 64-bit instructions
  /-- R159: CMD = `000n 1000`. -/
  | readUInt64BE (offset : Int) (mode : Mode)
  /-- R160: CMD = `001n 1000`. -/
  | readUInt64LE (offset : Int) (mode : Mode)
  /-- R161: CMD = `010n 1000`. -/
  | readInt64BE (offset : Int) (mode : Mode)
  /-- R162: CMD = `011n 1000`. -/
  | readInt64LE (offset : Int) (mode : Mode)
  /-- R163: CMD = `100n 1000`. -/
  | writeUInt64BE (value : Int) (offset : Int) (mode : Mode)
  /-- R164: CMD = `101n 1000`. -/
  | writeUInt64LE (value : Int) (offset : Int) (mode : Mode)
  /-- R165: CMD = `110n 1000`. -/
  | writeInt64BE (value : Int) (offset : Int) (mode : Mode)
  /-- R166: CMD = `111n 1000`. -/
  | writeInt64LE (value : Int) (offset : Int) (mode : Mode)
  deriving DecidableEq, Repr

end Sys2Proof
end

