-- ==== Sys2Proof/WellFormed.lean ====
section
/-! DEFINITION. Which calls can be put on the request ports (spec 30_encoding.md R49, R51, R52, R61): the offset fits the
signed 32-bit port OFFSET, the value the signed 72-bit port WVAL, the width the 4-bit field WIDTH ("must be 0..15 to be
encodable (the assembler refuses a larger number ...)", R61). A well-formed width need not be a supported one (R59). -/

namespace Sys2Proof

/-- The offset can stand on the port OFFSET (R51). -/
def offsetFits (o : Int) : Bool := decide (-2147483648 ≤ o ∧ o ≤ 2147483647)

/-- The value can stand on the port WVAL (R52). -/
def valueFits (v : Int) : Bool := decide (-2361183241434822606848 ≤ v ∧ v ≤ 2361183241434822606847)

/-- The width can stand in the field WIDTH (R49). -/
def widthFits (w : Nat) : Bool := decide (w ≤ Config.maxWidthCode)

/-- The call can be presented as a request (R61). -/
def Instr.wellFormed : Instr → Bool
  | .read o w _ _ _
  | .readUIntBE w o _
  | .readUIntLE w o _
  | .readIntBE w o _
  | .readIntLE w o _ => widthFits w && offsetFits o
  | .write o w v _ _ _
  | .writeUIntBE v w o _
  | .writeUIntLE v w o _
  | .writeIntBE v w o _
  | .writeIntLE v w o _ => widthFits w && (offsetFits o && valueFits v)
  | .readUInt8 o _
  | .readInt8 o _
  | .readUInt16BE o _
  | .readUInt16LE o _
  | .readInt16BE o _
  | .readInt16LE o _
  | .readUInt24BE o _
  | .readUInt24LE o _
  | .readInt24BE o _
  | .readInt24LE o _
  | .readUInt32BE o _
  | .readUInt32LE o _
  | .readInt32BE o _
  | .readInt32LE o _
  | .readUInt40BE o _
  | .readUInt40LE o _
  | .readInt40BE o _
  | .readInt40LE o _
  | .readUInt48BE o _
  | .readUInt48LE o _
  | .readInt48BE o _
  | .readInt48LE o _
  | .readUInt56BE o _
  | .readUInt56LE o _
  | .readInt56BE o _
  | .readInt56LE o _
  | .readUInt64BE o _
  | .readUInt64LE o _
  | .readInt64BE o _
  | .readInt64LE o _ => offsetFits o
  | .writeUInt8 v o _
  | .writeInt8 v o _
  | .writeUInt16BE v o _
  | .writeUInt16LE v o _
  | .writeInt16BE v o _
  | .writeInt16LE v o _
  | .writeUInt24BE v o _
  | .writeUInt24LE v o _
  | .writeInt24BE v o _
  | .writeInt24LE v o _
  | .writeUInt32BE v o _
  | .writeUInt32LE v o _
  | .writeInt32BE v o _
  | .writeInt32LE v o _
  | .writeUInt40BE v o _
  | .writeUInt40LE v o _
  | .writeInt40BE v o _
  | .writeInt40LE v o _
  | .writeUInt48BE v o _
  | .writeUInt48LE v o _
  | .writeInt48BE v o _
  | .writeInt48LE v o _
  | .writeUInt56BE v o _
  | .writeUInt56LE v o _
  | .writeInt56BE v o _
  | .writeInt56LE v o _
  | .writeUInt64BE v o _
  | .writeUInt64LE v o _
  | .writeInt64BE v o _
  | .writeInt64LE v o _ => offsetFits o && valueFits v

/-- The instructions that a decoder following "the most specific matching row" (R58) answers with: every fixed-width one, and
a generic one of the eight when its width is not supported. The other forms (`read`, `write`, and a generic form at a
supported width) share their words with one of these (R58, R62, R71). -/
def Instr.mostSpecific : Instr → Bool
  | .read _ _ _ _ _
  | .write _ _ _ _ _ _ => false
  | .readUIntBE w _ _
  | .readUIntLE w _ _
  | .readIntBE w _ _
  | .readIntLE w _ _
  | .writeUIntBE _ w _ _
  | .writeUIntLE _ w _ _
  | .writeIntBE _ w _ _
  | .writeIntLE _ w _ _ => decide (¬ (1 ≤ w ∧ w ≤ 8))
  | .readUInt8 _ _
  | .readInt8 _ _
  | .writeUInt8 _ _ _
  | .writeInt8 _ _ _
  | .readUInt16BE _ _
  | .readUInt16LE _ _
  | .readInt16BE _ _
  | .readInt16LE _ _
  | .writeUInt16BE _ _ _
  | .writeUInt16LE _ _ _
  | .writeInt16BE _ _ _
  | .writeInt16LE _ _ _
  | .readUInt24BE _ _
  | .readUInt24LE _ _
  | .readInt24BE _ _
  | .readInt24LE _ _
  | .writeUInt24BE _ _ _
  | .writeUInt24LE _ _ _
  | .writeInt24BE _ _ _
  | .writeInt24LE _ _ _
  | .readUInt32BE _ _
  | .readUInt32LE _ _
  | .readInt32BE _ _
  | .readInt32LE _ _
  | .writeUInt32BE _ _ _
  | .writeUInt32LE _ _ _
  | .writeInt32BE _ _ _
  | .writeInt32LE _ _ _
  | .readUInt40BE _ _
  | .readUInt40LE _ _
  | .readInt40BE _ _
  | .readInt40LE _ _
  | .writeUInt40BE _ _ _
  | .writeUInt40LE _ _ _
  | .writeInt40BE _ _ _
  | .writeInt40LE _ _ _
  | .readUInt48BE _ _
  | .readUInt48LE _ _
  | .readInt48BE _ _
  | .readInt48LE _ _
  | .writeUInt48BE _ _ _
  | .writeUInt48LE _ _ _
  | .writeInt48BE _ _ _
  | .writeInt48LE _ _ _
  | .readUInt56BE _ _
  | .readUInt56LE _ _
  | .readInt56BE _ _
  | .readInt56LE _ _
  | .writeUInt56BE _ _ _
  | .writeUInt56LE _ _ _
  | .writeInt56BE _ _ _
  | .writeInt56LE _ _ _
  | .readUInt64BE _ _
  | .readUInt64LE _ _
  | .readInt64BE _ _
  | .readInt64LE _ _
  | .writeUInt64BE _ _ _
  | .writeUInt64LE _ _ _
  | .writeInt64BE _ _ _
  | .writeInt64LE _ _ _ => true

end Sys2Proof
end

