-- ==== Sys2Proof/Decode.lean ====
section
/-! DEFINITION. The command word and the opcode map (spec 30_encoding.md R44, R57, R58): a decoder, total on every request,
and after it the encoder and the rows of the opcode table as match and mask. -/

namespace Sys2Proof

/-! ### The fields of the command word (R44) -/

/-- `DIR` = CMD[7] (R45). -/
def Request.dir (r : Request) : Dir := if r.cmd.getLsbD 7 then .write else .read

/-- `SGN` = CMD[6] (R46). -/
def Request.sgn (r : Request) : Signedness := if r.cmd.getLsbD 6 then .signed else .unsigned

/-- `END` = CMD[5] (R47). -/
def Request.endian (r : Request) : Endian := if r.cmd.getLsbD 5 then .le else .be

/-- `LEN` = CMD[4] (R48). -/
def Request.mode (r : Request) : Mode := if r.cmd.getLsbD 4 then .lenient else .strict

/-- `WIDTH` = CMD[3:0] as an unsigned number (R44, R49). -/
def Request.width (r : Request) : Nat := r.cmd.toNat % 16

/-- o = sext_32(OFFSET) (R51). -/
def Request.offsetInt (r : Request) : Int := r.offset.toInt

/-- v = sext_72(WVAL) (R52). -/
def Request.valueInt (r : Request) : Int := r.wval.toInt

/-! ### The decoder -/

/-- The rows with WIDTH = 1 (R57); END is ignored (R50). -/
def decodeWidth1 (d : Dir) (sg : Signedness) (n : Mode) (o v : Int) : Instr :=
  match d, sg with
  | .read, .unsigned => .readUInt8 o n
  | .read, .signed => .readInt8 o n
  | .write, .unsigned => .writeUInt8 v o n
  | .write, .signed => .writeInt8 v o n

/-- The rows with WIDTH = 2 (R57). -/
def decodeWidth2 (d : Dir) (sg : Signedness) (e : Endian) (n : Mode) (o v : Int) : Instr :=
  match d, sg, e with
  | .read, .unsigned, .be => .readUInt16BE o n
  | .read, .unsigned, .le => .readUInt16LE o n
  | .read, .signed, .be => .readInt16BE o n
  | .read, .signed, .le => .readInt16LE o n
  | .write, .unsigned, .be => .writeUInt16BE v o n
  | .write, .unsigned, .le => .writeUInt16LE v o n
  | .write, .signed, .be => .writeInt16BE v o n
  | .write, .signed, .le => .writeInt16LE v o n

/-- The rows with WIDTH = 3 (R57). -/
def decodeWidth3 (d : Dir) (sg : Signedness) (e : Endian) (n : Mode) (o v : Int) : Instr :=
  match d, sg, e with
  | .read, .unsigned, .be => .readUInt24BE o n
  | .read, .unsigned, .le => .readUInt24LE o n
  | .read, .signed, .be => .readInt24BE o n
  | .read, .signed, .le => .readInt24LE o n
  | .write, .unsigned, .be => .writeUInt24BE v o n
  | .write, .unsigned, .le => .writeUInt24LE v o n
  | .write, .signed, .be => .writeInt24BE v o n
  | .write, .signed, .le => .writeInt24LE v o n

/-- The rows with WIDTH = 4 (R57). -/
def decodeWidth4 (d : Dir) (sg : Signedness) (e : Endian) (n : Mode) (o v : Int) : Instr :=
  match d, sg, e with
  | .read, .unsigned, .be => .readUInt32BE o n
  | .read, .unsigned, .le => .readUInt32LE o n
  | .read, .signed, .be => .readInt32BE o n
  | .read, .signed, .le => .readInt32LE o n
  | .write, .unsigned, .be => .writeUInt32BE v o n
  | .write, .unsigned, .le => .writeUInt32LE v o n
  | .write, .signed, .be => .writeInt32BE v o n
  | .write, .signed, .le => .writeInt32LE v o n

/-- The rows with WIDTH = 5 (R57). -/
def decodeWidth5 (d : Dir) (sg : Signedness) (e : Endian) (n : Mode) (o v : Int) : Instr :=
  match d, sg, e with
  | .read, .unsigned, .be => .readUInt40BE o n
  | .read, .unsigned, .le => .readUInt40LE o n
  | .read, .signed, .be => .readInt40BE o n
  | .read, .signed, .le => .readInt40LE o n
  | .write, .unsigned, .be => .writeUInt40BE v o n
  | .write, .unsigned, .le => .writeUInt40LE v o n
  | .write, .signed, .be => .writeInt40BE v o n
  | .write, .signed, .le => .writeInt40LE v o n

/-- The rows with WIDTH = 6 (R57). -/
def decodeWidth6 (d : Dir) (sg : Signedness) (e : Endian) (n : Mode) (o v : Int) : Instr :=
  match d, sg, e with
  | .read, .unsigned, .be => .readUInt48BE o n
  | .read, .unsigned, .le => .readUInt48LE o n
  | .read, .signed, .be => .readInt48BE o n
  | .read, .signed, .le => .readInt48LE o n
  | .write, .unsigned, .be => .writeUInt48BE v o n
  | .write, .unsigned, .le => .writeUInt48LE v o n
  | .write, .signed, .be => .writeInt48BE v o n
  | .write, .signed, .le => .writeInt48LE v o n

/-- The rows with WIDTH = 7 (R57). -/
def decodeWidth7 (d : Dir) (sg : Signedness) (e : Endian) (n : Mode) (o v : Int) : Instr :=
  match d, sg, e with
  | .read, .unsigned, .be => .readUInt56BE o n
  | .read, .unsigned, .le => .readUInt56LE o n
  | .read, .signed, .be => .readInt56BE o n
  | .read, .signed, .le => .readInt56LE o n
  | .write, .unsigned, .be => .writeUInt56BE v o n
  | .write, .unsigned, .le => .writeUInt56LE v o n
  | .write, .signed, .be => .writeInt56BE v o n
  | .write, .signed, .le => .writeInt56LE v o n

/-- The rows with WIDTH = 8 (R57). -/
def decodeWidth8 (d : Dir) (sg : Signedness) (e : Endian) (n : Mode) (o v : Int) : Instr :=
  match d, sg, e with
  | .read, .unsigned, .be => .readUInt64BE o n
  | .read, .unsigned, .le => .readUInt64LE o n
  | .read, .signed, .be => .readInt64BE o n
  | .read, .signed, .le => .readInt64LE o n
  | .write, .unsigned, .be => .writeUInt64BE v o n
  | .write, .unsigned, .le => .writeUInt64LE v o n
  | .write, .signed, .be => .writeInt64BE v o n
  | .write, .signed, .le => .writeInt64LE v o n

/-- The generic rows, taken when WIDTH is not one of 1..8 (R58, R59). -/
def decodeGeneric (w : Nat) (d : Dir) (sg : Signedness) (e : Endian) (n : Mode) (o v : Int) : Instr :=
  match d, sg, e with
  | .read, .unsigned, .be => .readUIntBE w o n
  | .read, .unsigned, .le => .readUIntLE w o n
  | .read, .signed, .be => .readIntBE w o n
  | .read, .signed, .le => .readIntLE w o n
  | .write, .unsigned, .be => .writeUIntBE v w o n
  | .write, .unsigned, .le => .writeUIntLE v w o n
  | .write, .signed, .be => .writeIntBE v w o n
  | .write, .signed, .le => .writeIntLE v w o n

/-- The instruction with these fields: the most specific row of the opcode map (R58). -/
def decodeFields (d : Dir) (sg : Signedness) (e : Endian) (n : Mode) (w : Nat) (o v : Int) : Instr :=
  match w with
  | 1 => decodeWidth1 d sg n o v
  | 2 => decodeWidth2 d sg e n o v
  | 3 => decodeWidth3 d sg e n o v
  | 4 => decodeWidth4 d sg e n o v
  | 5 => decodeWidth5 d sg e n o v
  | 6 => decodeWidth6 d sg e n o v
  | 7 => decodeWidth7 d sg e n o v
  | 8 => decodeWidth8 d sg e n o v
  | _ => decodeGeneric w d sg e n o v

/-- The instruction a request stands for. "All 256 values of CMD are accepted as requests; none is undefined" (R44), so no
request is rejected here. (Assumption 8.) -/
def decode (r : Request) : Instr :=
  decodeFields r.dir r.sgn r.endian r.mode r.width r.offsetInt r.valueInt

/-- A request as one number: CMD in bits 7..0, OFFSET in bits 39..8, WVAL in bits 111..40. The spec numbers the bits of CMD
only (R44); the places of the two other ports are the model's (assumption 2; DESIGN CHOICE). -/
def Request.ofWord (x : Nat) : Request :=
  { cmd := BitVec.ofNat 8 x, offset := BitVec.ofNat 32 (x / 2 ^ 8), wval := BitVec.ofNat 72 (x / 2 ^ 40) }

/-- The number of a request, the inverse of `Request.ofWord`. -/
def Request.toWord (r : Request) : Nat := r.cmd.toNat + 2 ^ 8 * r.offset.toNat + 2 ^ 40 * r.wval.toNat

/-- Why a row of bits is no request: there is one instruction length, one transaction (R43, R60). -/
inductive DecodeError where
  /-- Fewer than the 8 bits of CMD. -/
  | noCommandWord
  /-- More bits than CMD, OFFSET and WVAL have together. -/
  | longerThanRequest
  deriving DecidableEq, Repr

/-- Decode nbits bits; every bit above them is 0 (assumption 2). -/
def decodeWord (nbits x : Nat) : Except DecodeError Instr :=
  if nbits < 8 then .error .noCommandWord
  else if 112 < nbits then .error .longerThanRequest
  else .ok (decode (Request.ofWord (x % 2 ^ nbits)))

/-- The decoder on the bits of an opcode-table row, as the host asks for it. -/
def decodeTableWord (nbits w : Nat) : Option Instr :=
  match decodeWord nbits w with
  | .ok i => some i
  | .error _ => none

/-! ### The encoder -/

/-- What a request says: the five fields of CMD and the two operand ports (R43). -/
structure Fields where
  dir    : Dir
  sgn    : Signedness
  endian : Endian
  mode   : Mode
  width  : Nat
  offset : Int
  value  : Int
  deriving DecidableEq, Repr

/-- The fields of an instruction: the row of the opcode map (R57) with its operands. Where an input is ignored (R50), END
at width 1 and WVAL for a read, the field is big-endian and 0 (assumption 18; DESIGN CHOICE). -/
def Instr.fields : Instr → Fields
  | .read o w e sg n => ⟨.read, sg, e, n, w, o, 0⟩
  | .write o w v e sg n => ⟨.write, sg, e, n, w, o, v⟩
  | .readUIntBE w o n => ⟨.read, .unsigned, .be, n, w, o, 0⟩
  | .readUIntLE w o n => ⟨.read, .unsigned, .le, n, w, o, 0⟩
  | .readIntBE w o n => ⟨.read, .signed, .be, n, w, o, 0⟩
  | .readIntLE w o n => ⟨.read, .signed, .le, n, w, o, 0⟩
  | .writeUIntBE v w o n => ⟨.write, .unsigned, .be, n, w, o, v⟩
  | .writeUIntLE v w o n => ⟨.write, .unsigned, .le, n, w, o, v⟩
  | .writeIntBE v w o n => ⟨.write, .signed, .be, n, w, o, v⟩
  | .writeIntLE v w o n => ⟨.write, .signed, .le, n, w, o, v⟩
  | .readUInt8 o n => ⟨.read, .unsigned, .be, n, 1, o, 0⟩
  | .readInt8 o n => ⟨.read, .signed, .be, n, 1, o, 0⟩
  | .writeUInt8 v o n => ⟨.write, .unsigned, .be, n, 1, o, v⟩
  | .writeInt8 v o n => ⟨.write, .signed, .be, n, 1, o, v⟩
  | .readUInt16BE o n => ⟨.read, .unsigned, .be, n, 2, o, 0⟩
  | .readUInt16LE o n => ⟨.read, .unsigned, .le, n, 2, o, 0⟩
  | .readInt16BE o n => ⟨.read, .signed, .be, n, 2, o, 0⟩
  | .readInt16LE o n => ⟨.read, .signed, .le, n, 2, o, 0⟩
  | .writeUInt16BE v o n => ⟨.write, .unsigned, .be, n, 2, o, v⟩
  | .writeUInt16LE v o n => ⟨.write, .unsigned, .le, n, 2, o, v⟩
  | .writeInt16BE v o n => ⟨.write, .signed, .be, n, 2, o, v⟩
  | .writeInt16LE v o n => ⟨.write, .signed, .le, n, 2, o, v⟩
  | .readUInt24BE o n => ⟨.read, .unsigned, .be, n, 3, o, 0⟩
  | .readUInt24LE o n => ⟨.read, .unsigned, .le, n, 3, o, 0⟩
  | .readInt24BE o n => ⟨.read, .signed, .be, n, 3, o, 0⟩
  | .readInt24LE o n => ⟨.read, .signed, .le, n, 3, o, 0⟩
  | .writeUInt24BE v o n => ⟨.write, .unsigned, .be, n, 3, o, v⟩
  | .writeUInt24LE v o n => ⟨.write, .unsigned, .le, n, 3, o, v⟩
  | .writeInt24BE v o n => ⟨.write, .signed, .be, n, 3, o, v⟩
  | .writeInt24LE v o n => ⟨.write, .signed, .le, n, 3, o, v⟩
  | .readUInt32BE o n => ⟨.read, .unsigned, .be, n, 4, o, 0⟩
  | .readUInt32LE o n => ⟨.read, .unsigned, .le, n, 4, o, 0⟩
  | .readInt32BE o n => ⟨.read, .signed, .be, n, 4, o, 0⟩
  | .readInt32LE o n => ⟨.read, .signed, .le, n, 4, o, 0⟩
  | .writeUInt32BE v o n => ⟨.write, .unsigned, .be, n, 4, o, v⟩
  | .writeUInt32LE v o n => ⟨.write, .unsigned, .le, n, 4, o, v⟩
  | .writeInt32BE v o n => ⟨.write, .signed, .be, n, 4, o, v⟩
  | .writeInt32LE v o n => ⟨.write, .signed, .le, n, 4, o, v⟩
  | .readUInt40BE o n => ⟨.read, .unsigned, .be, n, 5, o, 0⟩
  | .readUInt40LE o n => ⟨.read, .unsigned, .le, n, 5, o, 0⟩
  | .readInt40BE o n => ⟨.read, .signed, .be, n, 5, o, 0⟩
  | .readInt40LE o n => ⟨.read, .signed, .le, n, 5, o, 0⟩
  | .writeUInt40BE v o n => ⟨.write, .unsigned, .be, n, 5, o, v⟩
  | .writeUInt40LE v o n => ⟨.write, .unsigned, .le, n, 5, o, v⟩
  | .writeInt40BE v o n => ⟨.write, .signed, .be, n, 5, o, v⟩
  | .writeInt40LE v o n => ⟨.write, .signed, .le, n, 5, o, v⟩
  | .readUInt48BE o n => ⟨.read, .unsigned, .be, n, 6, o, 0⟩
  | .readUInt48LE o n => ⟨.read, .unsigned, .le, n, 6, o, 0⟩
  | .readInt48BE o n => ⟨.read, .signed, .be, n, 6, o, 0⟩
  | .readInt48LE o n => ⟨.read, .signed, .le, n, 6, o, 0⟩
  | .writeUInt48BE v o n => ⟨.write, .unsigned, .be, n, 6, o, v⟩
  | .writeUInt48LE v o n => ⟨.write, .unsigned, .le, n, 6, o, v⟩
  | .writeInt48BE v o n => ⟨.write, .signed, .be, n, 6, o, v⟩
  | .writeInt48LE v o n => ⟨.write, .signed, .le, n, 6, o, v⟩
  | .readUInt56BE o n => ⟨.read, .unsigned, .be, n, 7, o, 0⟩
  | .readUInt56LE o n => ⟨.read, .unsigned, .le, n, 7, o, 0⟩
  | .readInt56BE o n => ⟨.read, .signed, .be, n, 7, o, 0⟩
  | .readInt56LE o n => ⟨.read, .signed, .le, n, 7, o, 0⟩
  | .writeUInt56BE v o n => ⟨.write, .unsigned, .be, n, 7, o, v⟩
  | .writeUInt56LE v o n => ⟨.write, .unsigned, .le, n, 7, o, v⟩
  | .writeInt56BE v o n => ⟨.write, .signed, .be, n, 7, o, v⟩
  | .writeInt56LE v o n => ⟨.write, .signed, .le, n, 7, o, v⟩
  | .readUInt64BE o n => ⟨.read, .unsigned, .be, n, 8, o, 0⟩
  | .readUInt64LE o n => ⟨.read, .unsigned, .le, n, 8, o, 0⟩
  | .readInt64BE o n => ⟨.read, .signed, .be, n, 8, o, 0⟩
  | .readInt64LE o n => ⟨.read, .signed, .le, n, 8, o, 0⟩
  | .writeUInt64BE v o n => ⟨.write, .unsigned, .be, n, 8, o, v⟩
  | .writeUInt64LE v o n => ⟨.write, .unsigned, .le, n, 8, o, v⟩
  | .writeInt64BE v o n => ⟨.write, .signed, .be, n, 8, o, v⟩
  | .writeInt64LE v o n => ⟨.write, .signed, .le, n, 8, o, v⟩

/-- The weight of DIR in CMD (R44). -/
def Dir.weight : Dir → Nat
  | .read => 0
  | .write => 128

/-- The weight of SGN in CMD (R44). -/
def Signedness.weight : Signedness → Nat
  | .unsigned => 0
  | .signed => 64

/-- The weight of END in CMD (R44). -/
def Endian.weight : Endian → Nat
  | .be => 0
  | .le => 32

/-- The weight of LEN in CMD (R44). -/
def Mode.weight : Mode → Nat
  | .strict => 0
  | .lenient => 16

/-- `CMD[7:0]` with these fields (R44). -/
def packCmd (d : Dir) (sg : Signedness) (e : Endian) (n : Mode) (w : Nat) : BitVec 8 :=
  BitVec.ofNat 8 (d.weight + sg.weight + e.weight + n.weight + w % 16)

/-- The request with these fields (R43, R44, R51, R52). -/
def Fields.request (f : Fields) : Request :=
  { cmd := packCmd f.dir f.sgn f.endian f.mode f.width
    offset := BitVec.ofInt 32 f.offset
    wval := BitVec.ofInt 72 f.value }

/-- The request an instruction is presented as. -/
def encode (i : Instr) : Request := i.fields.request

/-! ### The opcode table -/

/-- The pair (match, mask) of the instruction's row in opcode_table.json (R57). -/
def Instr.tableRow : Instr → Nat × Nat
  | .read _ _ _ _ _ => (0x00, 0x80)
  | .write _ _ _ _ _ _ => (0x80, 0x80)
  | .readUIntBE _ _ _ => (0x00, 0xE0)
  | .readUIntLE _ _ _ => (0x20, 0xE0)
  | .readIntBE _ _ _ => (0x40, 0xE0)
  | .readIntLE _ _ _ => (0x60, 0xE0)
  | .writeUIntBE _ _ _ _ => (0x80, 0xE0)
  | .writeUIntLE _ _ _ _ => (0xA0, 0xE0)
  | .writeIntBE _ _ _ _ => (0xC0, 0xE0)
  | .writeIntLE _ _ _ _ => (0xE0, 0xE0)
  | .readUInt8 _ _ => (0x01, 0xCF)
  | .readInt8 _ _ => (0x41, 0xCF)
  | .writeUInt8 _ _ _ => (0x81, 0xCF)
  | .writeInt8 _ _ _ => (0xC1, 0xCF)
  | .readUInt16BE _ _ => (0x02, 0xEF)
  | .readUInt16LE _ _ => (0x22, 0xEF)
  | .readInt16BE _ _ => (0x42, 0xEF)
  | .readInt16LE _ _ => (0x62, 0xEF)
  | .writeUInt16BE _ _ _ => (0x82, 0xEF)
  | .writeUInt16LE _ _ _ => (0xA2, 0xEF)
  | .writeInt16BE _ _ _ => (0xC2, 0xEF)
  | .writeInt16LE _ _ _ => (0xE2, 0xEF)
  | .readUInt24BE _ _ => (0x03, 0xEF)
  | .readUInt24LE _ _ => (0x23, 0xEF)
  | .readInt24BE _ _ => (0x43, 0xEF)
  | .readInt24LE _ _ => (0x63, 0xEF)
  | .writeUInt24BE _ _ _ => (0x83, 0xEF)
  | .writeUInt24LE _ _ _ => (0xA3, 0xEF)
  | .writeInt24BE _ _ _ => (0xC3, 0xEF)
  | .writeInt24LE _ _ _ => (0xE3, 0xEF)
  | .readUInt32BE _ _ => (0x04, 0xEF)
  | .readUInt32LE _ _ => (0x24, 0xEF)
  | .readInt32BE _ _ => (0x44, 0xEF)
  | .readInt32LE _ _ => (0x64, 0xEF)
  | .writeUInt32BE _ _ _ => (0x84, 0xEF)
  | .writeUInt32LE _ _ _ => (0xA4, 0xEF)
  | .writeInt32BE _ _ _ => (0xC4, 0xEF)
  | .writeInt32LE _ _ _ => (0xE4, 0xEF)
  | .readUInt40BE _ _ => (0x05, 0xEF)
  | .readUInt40LE _ _ => (0x25, 0xEF)
  | .readInt40BE _ _ => (0x45, 0xEF)
  | .readInt40LE _ _ => (0x65, 0xEF)
  | .writeUInt40BE _ _ _ => (0x85, 0xEF)
  | .writeUInt40LE _ _ _ => (0xA5, 0xEF)
  | .writeInt40BE _ _ _ => (0xC5, 0xEF)
  | .writeInt40LE _ _ _ => (0xE5, 0xEF)
  | .readUInt48BE _ _ => (0x06, 0xEF)
  | .readUInt48LE _ _ => (0x26, 0xEF)
  | .readInt48BE _ _ => (0x46, 0xEF)
  | .readInt48LE _ _ => (0x66, 0xEF)
  | .writeUInt48BE _ _ _ => (0x86, 0xEF)
  | .writeUInt48LE _ _ _ => (0xA6, 0xEF)
  | .writeInt48BE _ _ _ => (0xC6, 0xEF)
  | .writeInt48LE _ _ _ => (0xE6, 0xEF)
  | .readUInt56BE _ _ => (0x07, 0xEF)
  | .readUInt56LE _ _ => (0x27, 0xEF)
  | .readInt56BE _ _ => (0x47, 0xEF)
  | .readInt56LE _ _ => (0x67, 0xEF)
  | .writeUInt56BE _ _ _ => (0x87, 0xEF)
  | .writeUInt56LE _ _ _ => (0xA7, 0xEF)
  | .writeInt56BE _ _ _ => (0xC7, 0xEF)
  | .writeInt56LE _ _ _ => (0xE7, 0xEF)
  | .readUInt64BE _ _ => (0x08, 0xEF)
  | .readUInt64LE _ _ => (0x28, 0xEF)
  | .readInt64BE _ _ => (0x48, 0xEF)
  | .readInt64LE _ _ => (0x68, 0xEF)
  | .writeUInt64BE _ _ _ => (0x88, 0xEF)
  | .writeUInt64LE _ _ _ => (0xA8, 0xEF)
  | .writeInt64BE _ _ _ => (0xC8, 0xEF)
  | .writeInt64LE _ _ _ => (0xE8, 0xEF)

end Sys2Proof
end

