-- ==== Sys2Proof/Machine/State.lean ====
section
/-! DEFINITION. The state of the model: the caller's Byte Buffer (spec 10_state.md R16), the response of the last command
(R17, 30_encoding.md R43, R53, R55), the host's own list of what it does next (R11), and the model's counter of free bytes
(40_dispatch.md R69). MBIC itself holds nothing (R9 to R15), so there is no register, no program counter, no flag and no
control register here. -/

namespace Sys2Proof.Machine

/-- The four failures of R170. None stops the machine: each becomes the STATUS of the command's own response (R167). -/
inductive Failure where
  /-- WIDTH outside 1..8 (R171). -/
  | unsupportedWidth
  /-- A strict write of a value outside the nominal range (R172). -/
  | outOfRange
  /-- A strict command whose region is not wholly inside the buffer (R173). -/
  | bufferOverrun
  /-- A read whose assembled value exceeds the safe-integer bound (R174). -/
  | integerTooLarge
  deriving DecidableEq, Repr

/-- The outcome on the port STATUS (R55): `OK`, or a failure. Codes 5, 6, 7 are never produced (U10), so they have no
value here. -/
inductive Status where
  /-- "the command did what its rule says" (R55). -/
  | ok
  /-- the command failed. -/
  | failed (f : Failure)
  deriving DecidableEq, Repr

/-- The response ports of one command (R43). `rval` is the 64-bit port RVAL, and `none` wherever RVAL is not valid: after
a write and after any failure (R53, U3: "an option type with none"). -/
structure Response where
  status : Status
  rval   : Option (BitVec 64)
  deriving DecidableEq, Repr

/-- What the host does next. MBIC fetches nothing (R11, R42): the host issues a command (R43), and between commands it may
present a buffer, and with it BUF_LEN (R16, R54, R183), write one of its cells (R38, R184), or assert reset (R180), which it
may also do while a command runs (R182).
(Assumption 1; DESIGN CHOICE in its form.) -/
inductive HostEvent where
  /-- The host issues one command (R43). -/
  | command (r : Request)
  /-- The host presents a buffer with these cells in ascending index (R16, R54). -/
  | present (cells : List Byte)
  /-- The host writes one cell of the buffer between two commands (R184). -/
  | store (index : Nat) (value : Byte)
  /-- Reset is asserted between two commands (R180). -/
  | reset
  /-- The host issues one command and reset is asserted before its response: the command is abandoned (R182, U8; assumption
  11). -/
  | abandon (r : Request)
  deriving DecidableEq, Repr

/-- The Byte Buffer (R16) as (index, byte) pairs. Its canonical form is `Memory.wf` (Machine/Ops.lean): exactly the indices
0, 1, ..., BUF_LEN - 1 in rising order, so BUF_LEN is its length and cannot differ from it (U5). An index that is not
listed is no cell at all: it names nothing (R20). (Assumption 3.) -/
abbrev Memory := List Host.Cell

/-- The state. -/
structure State where
  /-- The caller's Byte Buffer (R16); its length is BUF_LEN (R54). -/
  buf      : Memory
  /-- The response of the command just run; `none` when the last step ran no command (R17, R18). -/
  response : Option Response
  /-- The model's own field: how many free values have been used (R69, R182; assumptions 5 and 11). -/
  draws    : Nat
  /-- The host's own variable: what it does next (R11; assumption 1). -/
  host     : List HostEvent
  deriving DecidableEq, Repr

/-- Why the machine could stop with a fault. MBIC has none: "There is no other failure: no alignment fault, no
illegal-command fault ..., no bus error, no arithmetic fault" (R170), and the four failures of R170 are responses (R167).
So there is no constructor. (Assumption 16; DEDUCED, safe.) -/
inductive Fault where
  deriving DecidableEq, Repr

/-- Why a step is not modelled. -/
inductive Refusal where
  /-- Raised by an arm of `exec` for an instruction without a meaning; no arm raises it. Safe: the model stops. -/
  | notModelled (mnemonic : String)
  /-- Raised by a step whose host event presents more than 2^31 - 1 cells, which the 31-bit port BLEN cannot carry (R7,
  R54). Safe: the scenario is outside the spec and the model stops. (Assumption 15.) -/
  | bufferTooLong
  /-- Raised by a step whose host event stores to an index that is no cell of the buffer (R19). Safe: the scenario is
  outside the spec and the model stops. (Assumption 15.) -/
  | hostStoreOutsideBuffer
  deriving DecidableEq, Repr

/-- The three outcomes of a step of this machine. -/
abbrev Result := Host.Outcome State Fault Refusal

/-- The machine right after reset (R18, R180): idle, no response yet ("no defined value until the first command's
response"), no codec state. The buffer is the caller's and BUF_LEN is "not held by MBIC": here no buffer has been presented
yet, so it has no cell and BUF_LEN is 0 (assumption 4; DESIGN CHOICE, unsafe). No free byte has been used (assumption 5;
DESIGN CHOICE) and the host has not issued anything (R180). -/
def State.reset : State := { buf := [], response := none, draws := 0, host := [] }

end Sys2Proof.Machine
end

