-- ==== Sys2Proof/Machine/Operands.lean ====
section
/-! DEFINITION. Operands and the numbers made of them: the STATUS codes, sign extension, the nominal ranges, byte strings and
their values, and where the high and the low part of a composite width stand. Every number is an exact integer (spec
42_composite_split.md R113, R114): nothing here wraps. -/

namespace Sys2Proof.Machine

/-- The STATUS of a failure as a number (R55, R170). -/
def Failure.code : Failure → BitVec 3
  | .unsupportedWidth => 1
  | .outOfRange => 2
  | .bufferOverrun => 3
  | .integerTooLarge => 4

/-- `STATUS[2:0]` as a number (R55). -/
def Status.code : Status → BitVec 3
  | .ok => 0
  | .failed f => f.code

/-- `sext_N(v)` of 00_scope.md §5: the unsigned N-bit value v taken as a signed integer. -/
def sext (bits : Nat) (v : Nat) : Int :=
  if v < 2 ^ (bits - 1) then (v : Int) else (v : Int) - ((2 ^ bits : Nat) : Int)

/-- `Min(w, s)` (R8). The signed minimum is the two's-complement one (D23, G1; assumption 17). -/
def minVal (w : Nat) : Signedness → Int
  | .unsigned => 0
  | .signed => -((2 ^ (8 * w - 1) : Nat) : Int)

/-- `Max(w, s)` (R8). -/
def maxVal (w : Nat) : Signedness → Int
  | .unsigned => ((2 ^ (8 * w) : Nat) : Int) - 1
  | .signed => ((2 ^ (8 * w - 1) : Nat) : Int) - 1

/-! ### Byte strings (R22 to R24), listed in ascending buffer index -/

/-- `ULE(c)`: the first byte is the least significant (R23). -/
def uLE : List Byte → Nat
  | [] => 0
  | b :: bs => b.toNat + 256 * uLE bs

/-- `UBE(c)`: the first byte is the most significant (R23). -/
def uBE (c : List Byte) : Nat := uLE c.reverse

/-- `U(e, c)` (R23). -/
def uBytes : Endian → List Byte → Nat
  | .be, c => uBE c
  | .le, c => uLE c

/-- `Bytes(LE, n, u)`: byte i is floor(u / 256^i) mod 256 (R24). -/
def bytesLE (n u : Nat) : List Byte := (List.range n).map fun i => BitVec.ofNat 8 (u / 256 ^ i)

/-- `Bytes(e, n, u)`; the big-endian string is the little-endian one reversed (R24). -/
def bytesOf : Endian → Nat → Nat → List Byte
  | .le, n, u => bytesLE n u
  | .be, n, u => (bytesLE n u).reverse

/-- `x mod 256^n`, the two's-complement pattern of x in n bytes (R29, R114 (5)). -/
def patternOf (n : Nat) (x : Int) : Nat := (x % ((256 ^ n : Nat) : Int)).toNat

/-- `Addr(o, w, e, k)`: the index of the byte of significance k (R22). -/
def addrOf (o : Int) (w : Nat) (e : Endian) (k : Nat) : Int :=
  match e with
  | .be => o + ((w : Int) - 1 - (k : Int))
  | .le => o + (k : Int)

/-- The signed maximum, most significant byte first: `7f ff .. ff` (R120). -/
def signedMaxBE (w : Nat) : List Byte := 0x7F#8 :: List.replicate (w - 1) 0xFF#8

/-- `MaxPattern(w, e, s)`, the literal maximum byte pattern (R120). -/
def maxPattern (w : Nat) : Endian → Signedness → List Byte
  | _, .unsigned => List.replicate w 0xFF#8
  | .be, .signed => signedMaxBE w
  | .le, .signed => (signedMaxBE w).reverse

/-! ### The split of a composite width (R109) -/

/-- `HW(w)`: how many bytes the high part has (R109). -/
def highWidth (w : Nat) : Nat :=
  match w with
  | 3 => 1
  | 5 => 1
  | 6 => 2
  | 7 => 3
  | _ => 4

/-- `LW(w)`: how many bytes the low part has (R109). -/
def lowWidth (w : Nat) : Nat :=
  match w with
  | 3 => 2
  | _ => 4

/-- `SH(w)`: the multiplier of the high part (R109, R6). -/
def splitBase (w : Nat) : Int :=
  match w with
  | 3 => Config.shift16
  | _ => Config.shift32

/-- `HighAddr(o, w, e)` (R109). -/
def highAddr (o : Int) (w : Nat) : Endian → Int
  | .be => o
  | .le => o + (lowWidth w : Int)

/-- `LowAddr(o, w, e)` (R109). -/
def lowAddr (o : Int) (w : Nat) : Endian → Int
  | .be => o + (highWidth w : Int)
  | .le => o

/-- `high * SH(w) + low`, exact (R110, R113). -/
def joinParts (w : Nat) (high low : Int) : Int := high * splitBase w + low

/-- `floor(v / SH(w))`; the divisor is positive, so Lean's integer division rounds toward minus infinity (R112, R114 (3)). -/
def highPart (w : Nat) (v : Int) : Int := v / splitBase w

/-- `v mod SH(w)`, always in 0 .. SH(w) - 1 (R112, R114 (4)). -/
def lowPart (w : Nat) (v : Int) : Int := v % splitBase w

end Sys2Proof.Machine
end

