-- ==== Sys2Proof/Machine/Flags.lean ====
section
/-! DEFINITION. MBIC has no flags (spec 10_state.md R12): "flags written: none" stands in every instruction rule. What takes
their place is the tests a command makes on its way to its STATUS; they are written here, each over exact integers
(42_composite_split.md R114 (6)). -/

namespace Sys2Proof.Machine

/-- The width test of the dispatcher: WIDTH in {1, ..., 8} (R64). -/
abbrev Supported (w : Nat) : Prop := 1 ≤ w ∧ w ≤ 8

/-- `RegionOK(o, w)` for a buffer of `len` cells (R30). -/
abbrev RegionOK (o : Int) (w len : Nat) : Prop := 0 ≤ o ∧ o + (w : Int) ≤ (len : Int)

/-- The value lies in the nominal range of the width and signedness (R8, R68). -/
abbrev InRange (w : Nat) (sg : Signedness) (v : Int) : Prop := minVal w sg ≤ v ∧ v ≤ maxVal w sg

/-- The Safe-Integer Boundary Guard stops this value; the comparison is strict on both sides (R116, R117). -/
abbrev TooLarge (x : Int) : Prop := x > Config.maxSafe ∨ x < -Config.maxSafe

/-- The saturation test of a write: width 7 or 8 and a value at or above the maximum (R120). -/
abbrev Saturates (w : Nat) (sg : Signedness) (v : Int) : Prop := 7 ≤ w ∧ maxVal w sg ≤ v

/-- The widths the native primitives handle (R85). -/
abbrev NativeWidth (w : Nat) : Prop := w = 1 ∨ w = 2 ∨ w = 4

end Sys2Proof.Machine
end

