-- ==== Sys2Proof/Machine/Ops.lean ====
section
/-! DEFINITION. The named operations: one cell of the buffer, byte strings of it (spec 20_memory.md R25, R26), the native
primitives (R27 to R29), the split codecs (42_composite_split.md R110 to R112, R120), the response of a command and the
one operation that raises a failure (60_exceptions.md R167), the free bytes of 40_dispatch.md R69, and what the host does
between commands. -/

namespace Sys2Proof.Machine

/-! ### One cell -/

/-- BUF_LEN, the number of cells of the buffer (R16, R54, U5). -/
def Memory.bufLen (m : Memory) : Nat := m.length

/-- The 31-bit port BLEN that goes with the state's buffer (R43, R54). -/
def State.blen (s : State) : BitVec 31 := BitVec.ofNat 31 s.buf.bufLen

/-- The canonical form of a buffer: its indices are exactly 0, 1, ..., BUF_LEN - 1, in rising order (R16, R19). -/
abbrev Memory.wf (m : Memory) : Prop := m.map Prod.fst = List.range m.length

/-- The buffer whose cells, in ascending index, are these bytes. -/
def Memory.ofBytes (c : List Byte) : Memory := (List.range c.length).zip c

/-- The cell at index k; `none` when k names nothing (R20). -/
def Memory.find (m : Memory) (k : Nat) : Option Byte :=
  match m with
  | [] => none
  | c :: cs => if c.1 = k then some c.2 else Memory.find cs k

/-- Store into the cell at index k; where k names nothing, nothing is stored anywhere (R26). -/
def Memory.put (m : Memory) (k : Nat) (b : Byte) : Memory :=
  m.map fun c => if c.1 = k then (k, b) else c

/-- `B[a]` for an address a, any integer (R19); `none` outside the buffer. -/
def cellAt (m : Memory) (a : Int) : Option Byte := if 0 ≤ a then m.find a.toNat else none

/-- The byte a read takes from address a: the cell, or 0x00 outside the buffer (R25). -/
def byteAt (m : Memory) (a : Int) : Byte := (cellAt m a).getD 0#8

/-- Store one byte at address a; outside the buffer it is dropped (R26). -/
def putByte (m : Memory) (a : Int) (b : Byte) : Memory := if 0 ≤ a then m.put a.toNat b else m

/-! ### Byte strings -/

/-- `MemRead(a, n)` (R25). -/
def memRead (a : Int) (n : Nat) (m : Memory) : List Byte :=
  (List.range n).map fun (i : Nat) => byteAt m (a + (i : Int))

/-- `MemWrite(a, n, c)`, n the length of c, in ascending index (R26). -/
def memWrite (a : Int) (c : List Byte) (m : Memory) : Memory :=
  match c with
  | [] => m
  | b :: bs => memWrite (a + 1) bs (putByte m a b)

/-! ### The native primitives -/

/-- `NatReadU(a, n, e)` (R27). -/
def natReadU (a : Int) (n : Nat) (e : Endian) (m : Memory) : Int := (uBytes e (memRead a n m) : Nat)

/-- `NatReadS(a, n, e)` (R28). -/
def natReadS (a : Int) (n : Nat) (e : Endian) (m : Memory) : Int :=
  sext (8 * n) (uBytes e (memRead a n m))

/-- `NatWrite(a, n, e, x)` (R29). -/
def natWrite (a : Int) (n : Nat) (e : Endian) (x : Int) (m : Memory) : Memory :=
  memWrite a (bytesOf e n (patternOf n x)) m

/-! ### The split codecs -/

/-- The 3-byte codec reading unsigned: R110 with w = 3. -/
def decode3U (e : Endian) (o : Int) (m : Memory) : Int :=
  joinParts 3 (natReadU (highAddr o 3 e) 1 e m) (natReadU (lowAddr o 3 e) 2 e m)

/-- The 3-byte codec reading signed: R111 with w = 3. -/
def decode3S (e : Endian) (o : Int) (m : Memory) : Int :=
  joinParts 3 (natReadS (highAddr o 3 e) 1 e m) (natReadU (lowAddr o 3 e) 2 e m)

/-- `ReadHighU(a, h, e)` (R110). -/
def readHighU (a : Int) (h : Nat) (e : Endian) (m : Memory) : Int :=
  if h = 3 then decode3U e a m else natReadU a h e m

/-- `ReadHighS(a, h, e)` (R111). -/
def readHighS (a : Int) (h : Nat) (e : Endian) (m : Memory) : Int :=
  if h = 3 then decode3S e a m else natReadS a h e m

/-- `DecodeU(w, e, o)`, w in {3, 5, 6, 7, 8} (R110). -/
def decodeU (w : Nat) (e : Endian) (o : Int) (m : Memory) : Int :=
  joinParts w (readHighU (highAddr o w e) (highWidth w) e m) (natReadU (lowAddr o w e) (lowWidth w) e m)

/-- `DecodeS(w, e, o)`, w in {3, 5, 6, 7, 8}; only the high part carries the sign (R111). -/
def decodeS (w : Nat) (e : Endian) (o : Int) (m : Memory) : Int :=
  joinParts w (readHighS (highAddr o w e) (highWidth w) e m) (natReadU (lowAddr o w e) (lowWidth w) e m)

/-- `Decode(w, e, s, o)` of R65: a native leaf (R86) or the split (R110, R111). -/
def decodeInt (w : Nat) (e : Endian) (sg : Signedness) (o : Int) (m : Memory) : Int :=
  if NativeWidth w then
    match sg with
    | .unsigned => natReadU o w e m
    | .signed => natReadS o w e m
  else
    match sg with
    | .unsigned => decodeU w e o m
    | .signed => decodeS w e o m

/-- The 3-byte codec writing: R112 with w = 3. -/
def encode3 (e : Endian) (o : Int) (v : Int) (m : Memory) : Memory :=
  natWrite (lowAddr o 3 e) 2 e (lowPart 3 v) (natWrite (highAddr o 3 e) 1 e (highPart 3 v) m)

/-- `WriteHigh(a, h, e, x)` (R112). -/
def writeHigh (a : Int) (h : Nat) (e : Endian) (x : Int) (m : Memory) : Memory :=
  if h = 3 then encode3 e a x m else natWrite a h e x m

/-- `EncodeSplit(w, e, o, v)`, w in {3, 5, 6, 7, 8} (R112): high part first. The order of the two sub-writes is not
observable (R35, D27; assumption 10). -/
def encodeSplit (w : Nat) (e : Endian) (o : Int) (v : Int) (m : Memory) : Memory :=
  natWrite (lowAddr o w e) (lowWidth w) e (lowPart w v)
    (writeHigh (highAddr o w e) (highWidth w) e (highPart w v) m)

/-- `Encode(w, e, s, o, v)` of R65: a native leaf (R87), the saturation at widths 7 and 8 (R120), or the split (R112). -/
def encodeInt (w : Nat) (e : Endian) (sg : Signedness) (o : Int) (v : Int) (m : Memory) : Memory :=
  if NativeWidth w then natWrite o w e v m
  else if Saturates w sg v then memWrite o (maxPattern w e sg) m
  else encodeSplit w e o v m

/-! ### The response of a command -/

/-- The command ends with this response; nothing else changes. -/
def State.respond (s : State) (r : Response) : State := { s with response := some r }

/-- A read ends with STATUS = `OK` and this RVAL (R67, R53). -/
def State.answerRead (s : State) (x : Int) : State := s.respond ⟨.ok, some (BitVec.ofInt 64 x)⟩

/-- A write ends with STATUS = `OK` and this buffer; RVAL is not valid (R68, R53). -/
def State.answerWrite (s : State) (m : Memory) : State := ({ s with buf := m }).respond ⟨.ok, none⟩

/-- The state after a failed command: STATUS is the failure's, RVAL is not valid, and nothing else has happened (R167). -/
def State.failWith (s : State) (f : Failure) : State := s.respond ⟨.failed f, none⟩

/-- `raise <Exception>`: the one operation that takes an exception. "There is no trap entry: no state is saved, no mode
changes ..., control goes nowhere" (R167), the response carries the STATUS only (R168), and there is nothing to return
from (R169), so no operation stands beside it for a return. -/
def raise (f : Failure) (s : State) : Result := .next (s.failWith f)

/-! ### The free bytes of a lenient write out of range -/

/-- w uses of `draw()`, from the k-th on (R69; assumption 5). -/
def drawBytes (k w : Nat) : List Byte := (List.range w).map fun i => Config.draw (k + i)

/-- `LenientOutOfRange(w, o)`: STATUS is `OK`, every in-bounds cell of the region takes a fresh unconstrained byte, no
other cell changes (R69). -/
def lenientOutOfRange (w : Nat) (o : Int) (s : State) : Result :=
  .next (({ s with draws := s.draws + w }).answerWrite (memWrite o (drawBytes s.draws w) s.buf))

/-! ### What the host does between commands (assumption 1) -/

/-- The host presents a buffer (R16, R54, R183); more cells than BLEN can carry are outside the spec (assumption 15). -/
def hostPresent (c : List Byte) (s : State) : Result :=
  if c.length ≤ Config.maxBufLen then .next { s with buf := Memory.ofBytes c } else .refused .bufferTooLong

/-- The host writes one cell between commands (R184); an index that is no cell is outside the spec (assumption 15). -/
def hostStore (k : Nat) (b : Byte) (s : State) : Result :=
  if k < s.buf.bufLen then .next { s with buf := s.buf.put k b } else .refused .hostStoreOutsideBuffer

/-- Reset between commands: "reset has nothing to clear and nothing to load"; the buffer is not touched and no response is
defined (R18, R180). -/
def hostReset (s : State) : Result := .next { s with response := none }

/-- The buffer when a command is abandoned: each cell has its old value or the one the command would have left, which of them
is a free value of its own (R182; assumption 11). A cell the command would have left alone is unchanged either way. -/
def settle (k : Nat) (old new : Memory) : Memory :=
  List.zipWith (fun c d => (c.1, if Config.settles (k + c.1) then d.2 else c.2)) old new

/-- Reset during a command whose outcome would have been `r`: it "is abandoned and gives no response" (R182). -/
def abandonCommand (r : Result) (s : State) : Result :=
  match r with
  | .next t => .next { s with buf := settle t.draws s.buf t.buf, draws := t.draws + s.buf.bufLen, response := none }
  | .fault f => .fault f
  | .refused f => .refused f

/-- No event: MBIC is idle and waits (R180; assumption 6). -/
def idle (s : State) : Result := .next { s with response := none }

/-- The state in which the event at the front of the host's list takes place: the event is taken off, and the response of
the command before it is no longer on the ports (R17; assumption 7). -/
def State.afterEvent (s : State) (rest : List HostEvent) : State := { s with host := rest, response := none }

end Sys2Proof.Machine
end

