-- ==== Sys2Proof/Machine/Flow.lean ====
section
/-! DEFINITION. The command flow that every instruction shares (spec 40_dispatch.md): the width test of the dispatcher
(R64), `ReadFlow` (R67), `WriteFlow` (R68), and the generic forms that take the width as an operand (R73 to R82). -/

namespace Sys2Proof.Machine

/-- `ReadFlow` (R67): bounds check in strict mode, decode, guard, answer. The buffer is unchanged in every case. -/
def readFlow (w : Nat) (e : Endian) (sg : Signedness) (n : Mode) (o : Int) (s : State) : Result :=
  if n = .strict ∧ ¬ RegionOK o w s.buf.bufLen then raise .bufferOverrun s
  else if TooLarge (decodeInt w e sg o s.buf) then raise .integerTooLarge s
  else .next (s.answerRead (decodeInt w e sg o s.buf))

/-- The strict half of `WriteFlow`: the value check first, the bounds check second (R68, R175). -/
def writeStrict (w : Nat) (e : Endian) (sg : Signedness) (o : Int) (v : Int) (s : State) : Result :=
  if ¬ InRange w sg v then raise .outOfRange s
  else if ¬ RegionOK o w s.buf.bufLen then raise .bufferOverrun s
  else .next (s.answerWrite (encodeInt w e sg o v s.buf))

/-- The lenient half of `WriteFlow`: neither check is made (R68, R69). -/
def writeLenient (w : Nat) (e : Endian) (sg : Signedness) (o : Int) (v : Int) (s : State) : Result :=
  if InRange w sg v ∨ Saturates w sg v then .next (s.answerWrite (encodeInt w e sg o v s.buf))
  else lenientOutOfRange w o s

/-- `WriteFlow` (R68). -/
def writeFlow (w : Nat) (e : Endian) (sg : Signedness) (n : Mode) (o : Int) (v : Int) (s : State) : Result :=
  match n with
  | .strict => writeStrict w e sg o v s
  | .lenient => writeLenient w e sg o v s

/-- A read whose width is an operand: Width Dispatch (R63, R64), then `ReadFlow`. -/
def genericRead (w : Nat) (e : Endian) (sg : Signedness) (n : Mode) (o : Int) (s : State) : Result :=
  if Supported w then readFlow w e sg n o s else raise .unsupportedWidth s

/-- A write whose width is an operand: Width Dispatch (R63, R64), then `WriteFlow`. -/
def genericWrite (w : Nat) (e : Endian) (sg : Signedness) (n : Mode) (o : Int) (v : Int) (s : State) : Result :=
  if Supported w then writeFlow w e sg n o v s else raise .unsupportedWidth s

/-- `Exec` (R66): what a command does, written over the request's own fields, without any mnemonic. The machine runs
`exec (decode r)`; that the two agree is a statement about the model, not its definition. -/
def execCommand (r : Request) (s : State) : Result :=
  if Supported r.width then
    match r.dir with
    | .read => readFlow r.width r.endian r.sgn r.mode r.offsetInt s
    | .write => writeFlow r.width r.endian r.sgn r.mode r.offsetInt r.valueInt s
  else raise .unsupportedWidth s

end Sys2Proof.Machine
end

