-- ==== Sys2Proof/Machine/Generic.lean ====
section
/-! DEFINITION. The meanings of the ten instructions that take the width as an operand (spec 40_dispatch.md R73 to R82). Each is the common flow
(40_dispatch.md R67, R68) with the instruction's own fields; "they add no behaviour the flow does not have" (INDEX.md, R71). -/

namespace Sys2Proof.Machine

/-- The fully generic read (R73). -/
def execRead (o : Int) (w : Nat) (e : Endian) (sg : Signedness) (n : Mode) (s : State) : Result :=
  genericRead w e sg n o s

/-- The fully generic write (R74). -/
def execWrite (o : Int) (w : Nat) (v : Int) (e : Endian) (sg : Signedness) (n : Mode) (s : State) : Result :=
  genericWrite w e sg n o v s

/-- The generic unsigned big-endian read (R75). -/
def execReadUIntBE (w : Nat) (o : Int) (n : Mode) (s : State) : Result :=
  genericRead w .be .unsigned n o s

/-- The generic unsigned little-endian read (R76). -/
def execReadUIntLE (w : Nat) (o : Int) (n : Mode) (s : State) : Result :=
  genericRead w .le .unsigned n o s

/-- The generic signed big-endian read (R77). -/
def execReadIntBE (w : Nat) (o : Int) (n : Mode) (s : State) : Result :=
  genericRead w .be .signed n o s

/-- The generic signed little-endian read (R78). -/
def execReadIntLE (w : Nat) (o : Int) (n : Mode) (s : State) : Result :=
  genericRead w .le .signed n o s

/-- The generic unsigned big-endian write (R79). -/
def execWriteUIntBE (v : Int) (w : Nat) (o : Int) (n : Mode) (s : State) : Result :=
  genericWrite w .be .unsigned n o v s

/-- The generic unsigned little-endian write (R80). -/
def execWriteUIntLE (v : Int) (w : Nat) (o : Int) (n : Mode) (s : State) : Result :=
  genericWrite w .le .unsigned n o v s

/-- The generic signed big-endian write (R81). -/
def execWriteIntBE (v : Int) (w : Nat) (o : Int) (n : Mode) (s : State) : Result :=
  genericWrite w .be .signed n o v s

/-- The generic signed little-endian write (R82). -/
def execWriteIntLE (v : Int) (w : Nat) (o : Int) (n : Mode) (s : State) : Result :=
  genericWrite w .le .signed n o v s

end Sys2Proof.Machine
end

