-- ==== Sys2Proof/Machine/Native.lean ====
section
/-! DEFINITION. The meanings of the 1-, 2- and 4-byte instructions (spec 41_native_1_2_4.md R85 to R108). Each is the common flow
(40_dispatch.md R67, R68) with the instruction's own fields; "they add no behaviour the flow does not have" (INDEX.md, R71). -/

namespace Sys2Proof.Machine

/-- Decode an unsigned 8-bit integer; END is ignored (R89). -/
def execReadUInt8 (o : Int) (n : Mode) (s : State) : Result :=
  readFlow 1 .be .unsigned n o s

/-- Decode a signed 8-bit integer; END is ignored (R90). -/
def execReadInt8 (o : Int) (n : Mode) (s : State) : Result :=
  readFlow 1 .be .signed n o s

/-- Encode an unsigned 8-bit integer; END is ignored (R91). -/
def execWriteUInt8 (v : Int) (o : Int) (n : Mode) (s : State) : Result :=
  writeFlow 1 .be .unsigned n o v s

/-- Encode a signed 8-bit integer; END is ignored (R92). -/
def execWriteInt8 (v : Int) (o : Int) (n : Mode) (s : State) : Result :=
  writeFlow 1 .be .signed n o v s

/-- Decode an unsigned 16-bit big-endian integer (R93). -/
def execReadUInt16BE (o : Int) (n : Mode) (s : State) : Result :=
  readFlow 2 .be .unsigned n o s

/-- Decode an unsigned 16-bit little-endian integer (R94). -/
def execReadUInt16LE (o : Int) (n : Mode) (s : State) : Result :=
  readFlow 2 .le .unsigned n o s

/-- Decode a signed 16-bit big-endian integer (R95). -/
def execReadInt16BE (o : Int) (n : Mode) (s : State) : Result :=
  readFlow 2 .be .signed n o s

/-- Decode a signed 16-bit little-endian integer (R96). -/
def execReadInt16LE (o : Int) (n : Mode) (s : State) : Result :=
  readFlow 2 .le .signed n o s

/-- Encode an unsigned 16-bit big-endian integer (R97). -/
def execWriteUInt16BE (v : Int) (o : Int) (n : Mode) (s : State) : Result :=
  writeFlow 2 .be .unsigned n o v s

/-- Encode an unsigned 16-bit little-endian integer (R98). -/
def execWriteUInt16LE (v : Int) (o : Int) (n : Mode) (s : State) : Result :=
  writeFlow 2 .le .unsigned n o v s

/-- Encode a signed 16-bit big-endian integer (R99). -/
def execWriteInt16BE (v : Int) (o : Int) (n : Mode) (s : State) : Result :=
  writeFlow 2 .be .signed n o v s

/-- Encode a signed 16-bit little-endian integer (R100). -/
def execWriteInt16LE (v : Int) (o : Int) (n : Mode) (s : State) : Result :=
  writeFlow 2 .le .signed n o v s

/-- Decode an unsigned 32-bit big-endian integer (R101). -/
def execReadUInt32BE (o : Int) (n : Mode) (s : State) : Result :=
  readFlow 4 .be .unsigned n o s

/-- Decode an unsigned 32-bit little-endian integer (R102). -/
def execReadUInt32LE (o : Int) (n : Mode) (s : State) : Result :=
  readFlow 4 .le .unsigned n o s

/-- Decode a signed 32-bit big-endian integer (R103). -/
def execReadInt32BE (o : Int) (n : Mode) (s : State) : Result :=
  readFlow 4 .be .signed n o s

/-- Decode a signed 32-bit little-endian integer (R104). -/
def execReadInt32LE (o : Int) (n : Mode) (s : State) : Result :=
  readFlow 4 .le .signed n o s

/-- Encode an unsigned 32-bit big-endian integer (R105). -/
def execWriteUInt32BE (v : Int) (o : Int) (n : Mode) (s : State) : Result :=
  writeFlow 4 .be .unsigned n o v s

/-- Encode an unsigned 32-bit little-endian integer (R106). -/
def execWriteUInt32LE (v : Int) (o : Int) (n : Mode) (s : State) : Result :=
  writeFlow 4 .le .unsigned n o v s

/-- Encode a signed 32-bit big-endian integer (R107). -/
def execWriteInt32BE (v : Int) (o : Int) (n : Mode) (s : State) : Result :=
  writeFlow 4 .be .signed n o v s

/-- Encode a signed 32-bit little-endian integer (R108). -/
def execWriteInt32LE (v : Int) (o : Int) (n : Mode) (s : State) : Result :=
  writeFlow 4 .le .signed n o v s

end Sys2Proof.Machine
end

