-- ==== Sys2Proof/Machine/Width3.lean ====
section
/-! DEFINITION. The meanings of the 24-bit instructions (spec 43_width3.md R122 to R130). Each is the common flow
(40_dispatch.md R67, R68) with the instruction's own fields; "they add no behaviour the flow does not have" (INDEX.md, R71). -/

namespace Sys2Proof.Machine

/-- Decode an unsigned 24-bit big-endian integer (R123). -/
def execReadUInt24BE (o : Int) (n : Mode) (s : State) : Result :=
  readFlow 3 .be .unsigned n o s

/-- Decode an unsigned 24-bit little-endian integer (R124). -/
def execReadUInt24LE (o : Int) (n : Mode) (s : State) : Result :=
  readFlow 3 .le .unsigned n o s

/-- Decode a signed 24-bit big-endian integer (R125). -/
def execReadInt24BE (o : Int) (n : Mode) (s : State) : Result :=
  readFlow 3 .be .signed n o s

/-- Decode a signed 24-bit little-endian integer (R126). -/
def execReadInt24LE (o : Int) (n : Mode) (s : State) : Result :=
  readFlow 3 .le .signed n o s

/-- Encode an unsigned 24-bit big-endian integer (R127). -/
def execWriteUInt24BE (v : Int) (o : Int) (n : Mode) (s : State) : Result :=
  writeFlow 3 .be .unsigned n o v s

/-- Encode an unsigned 24-bit little-endian integer (R128). -/
def execWriteUInt24LE (v : Int) (o : Int) (n : Mode) (s : State) : Result :=
  writeFlow 3 .le .unsigned n o v s

/-- Encode a signed 24-bit big-endian integer (R129). -/
def execWriteInt24BE (v : Int) (o : Int) (n : Mode) (s : State) : Result :=
  writeFlow 3 .be .signed n o v s

/-- Encode a signed 24-bit little-endian integer (R130). -/
def execWriteInt24LE (v : Int) (o : Int) (n : Mode) (s : State) : Result :=
  writeFlow 3 .le .signed n o v s

end Sys2Proof.Machine
end

