-- ==== Sys2Proof/Machine/Width5.lean ====
section
/-! DEFINITION. The meanings of the 40-bit instructions (spec 44_width5.md R131 to R139). Each is the common flow
(40_dispatch.md R67, R68) with the instruction's own fields; "they add no behaviour the flow does not have" (INDEX.md, R71). -/

namespace Sys2Proof.Machine

/-- Decode an unsigned 40-bit big-endian integer (R132). -/
def execReadUInt40BE (o : Int) (n : Mode) (s : State) : Result :=
  readFlow 5 .be .unsigned n o s

/-- Decode an unsigned 40-bit little-endian integer (R133). -/
def execReadUInt40LE (o : Int) (n : Mode) (s : State) : Result :=
  readFlow 5 .le .unsigned n o s

/-- Decode a signed 40-bit big-endian integer (R134). -/
def execReadInt40BE (o : Int) (n : Mode) (s : State) : Result :=
  readFlow 5 .be .signed n o s

/-- Decode a signed 40-bit little-endian integer (R135). -/
def execReadInt40LE (o : Int) (n : Mode) (s : State) : Result :=
  readFlow 5 .le .signed n o s

/-- Encode an unsigned 40-bit big-endian integer (R136). -/
def execWriteUInt40BE (v : Int) (o : Int) (n : Mode) (s : State) : Result :=
  writeFlow 5 .be .unsigned n o v s

/-- Encode an unsigned 40-bit little-endian integer (R137). -/
def execWriteUInt40LE (v : Int) (o : Int) (n : Mode) (s : State) : Result :=
  writeFlow 5 .le .unsigned n o v s

/-- Encode a signed 40-bit big-endian integer (R138). -/
def execWriteInt40BE (v : Int) (o : Int) (n : Mode) (s : State) : Result :=
  writeFlow 5 .be .signed n o v s

/-- Encode a signed 40-bit little-endian integer (R139). -/
def execWriteInt40LE (v : Int) (o : Int) (n : Mode) (s : State) : Result :=
  writeFlow 5 .le .signed n o v s

end Sys2Proof.Machine
end

