-- ==== Sys2Proof/Machine/Width6.lean ====
section
/-! DEFINITION. The meanings of the 48-bit instructions (spec 45_width6.md R140 to R148). Each is the common flow
(40_dispatch.md R67, R68) with the instruction's own fields; "they add no behaviour the flow does not have" (INDEX.md, R71). -/

namespace Sys2Proof.Machine

/-- Decode an unsigned 48-bit big-endian integer (R141). -/
def execReadUInt48BE (o : Int) (n : Mode) (s : State) : Result :=
  readFlow 6 .be .unsigned n o s

/-- Decode an unsigned 48-bit little-endian integer (R142). -/
def execReadUInt48LE (o : Int) (n : Mode) (s : State) : Result :=
  readFlow 6 .le .unsigned n o s

/-- Decode a signed 48-bit big-endian integer (R143). -/
def execReadInt48BE (o : Int) (n : Mode) (s : State) : Result :=
  readFlow 6 .be .signed n o s

/-- Decode a signed 48-bit little-endian integer (R144). -/
def execReadInt48LE (o : Int) (n : Mode) (s : State) : Result :=
  readFlow 6 .le .signed n o s

/-- Encode an unsigned 48-bit big-endian integer (R145). -/
def execWriteUInt48BE (v : Int) (o : Int) (n : Mode) (s : State) : Result :=
  writeFlow 6 .be .unsigned n o v s

/-- Encode an unsigned 48-bit little-endian integer (R146). -/
def execWriteUInt48LE (v : Int) (o : Int) (n : Mode) (s : State) : Result :=
  writeFlow 6 .le .unsigned n o v s

/-- Encode a signed 48-bit big-endian integer (R147). -/
def execWriteInt48BE (v : Int) (o : Int) (n : Mode) (s : State) : Result :=
  writeFlow 6 .be .signed n o v s

/-- Encode a signed 48-bit little-endian integer (R148). -/
def execWriteInt48LE (v : Int) (o : Int) (n : Mode) (s : State) : Result :=
  writeFlow 6 .le .signed n o v s

end Sys2Proof.Machine
end

