-- ==== Sys2Proof/Machine/Width7.lean ====
section
/-! DEFINITION. The meanings of the 56-bit instructions, guarded and saturating (spec 46_width7.md R149 to R157). Each is the common flow
(40_dispatch.md R67, R68) with the instruction's own fields; "they add no behaviour the flow does not have" (INDEX.md, R71). -/

namespace Sys2Proof.Machine

/-- Decode an unsigned 56-bit big-endian integer (R150). -/
def execReadUInt56BE (o : Int) (n : Mode) (s : State) : Result :=
  readFlow 7 .be .unsigned n o s

/-- Decode an unsigned 56-bit little-endian integer (R151). -/
def execReadUInt56LE (o : Int) (n : Mode) (s : State) : Result :=
  readFlow 7 .le .unsigned n o s

/-- Decode a signed 56-bit big-endian integer (R152). -/
def execReadInt56BE (o : Int) (n : Mode) (s : State) : Result :=
  readFlow 7 .be .signed n o s

/-- Decode a signed 56-bit little-endian integer (R153). -/
def execReadInt56LE (o : Int) (n : Mode) (s : State) : Result :=
  readFlow 7 .le .signed n o s

/-- Encode an unsigned 56-bit big-endian integer (R154). -/
def execWriteUInt56BE (v : Int) (o : Int) (n : Mode) (s : State) : Result :=
  writeFlow 7 .be .unsigned n o v s

/-- Encode an unsigned 56-bit little-endian integer (R155). -/
def execWriteUInt56LE (v : Int) (o : Int) (n : Mode) (s : State) : Result :=
  writeFlow 7 .le .unsigned n o v s

/-- Encode a signed 56-bit big-endian integer (R156). -/
def execWriteInt56BE (v : Int) (o : Int) (n : Mode) (s : State) : Result :=
  writeFlow 7 .be .signed n o v s

/-- Encode a signed 56-bit little-endian integer (R157). -/
def execWriteInt56LE (v : Int) (o : Int) (n : Mode) (s : State) : Result :=
  writeFlow 7 .le .signed n o v s

end Sys2Proof.Machine
end

