-- ==== Sys2Proof/Machine/Width8.lean ====
section
/-! DEFINITION. The meanings of the 64-bit instructions, guarded and saturating (spec 47_width8.md R158 to R166). Each is the common flow
(40_dispatch.md R67, R68) with the instruction's own fields; "they add no behaviour the flow does not have" (INDEX.md, R71). -/

namespace Sys2Proof.Machine

/-- Decode an unsigned 64-bit big-endian integer (R159). -/
def execReadUInt64BE (o : Int) (n : Mode) (s : State) : Result :=
  readFlow 8 .be .unsigned n o s

/-- Decode an unsigned 64-bit little-endian integer (R160). -/
def execReadUInt64LE (o : Int) (n : Mode) (s : State) : Result :=
  readFlow 8 .le .unsigned n o s

/-- Decode a signed 64-bit big-endian integer (R161). -/
def execReadInt64BE (o : Int) (n : Mode) (s : State) : Result :=
  readFlow 8 .be .signed n o s

/-- Decode a signed 64-bit little-endian integer (R162). -/
def execReadInt64LE (o : Int) (n : Mode) (s : State) : Result :=
  readFlow 8 .le .signed n o s

/-- Encode an unsigned 64-bit big-endian integer (R163). -/
def execWriteUInt64BE (v : Int) (o : Int) (n : Mode) (s : State) : Result :=
  writeFlow 8 .be .unsigned n o v s

/-- Encode an unsigned 64-bit little-endian integer (R164). -/
def execWriteUInt64LE (v : Int) (o : Int) (n : Mode) (s : State) : Result :=
  writeFlow 8 .le .unsigned n o v s

/-- Encode a signed 64-bit big-endian integer (R165). -/
def execWriteInt64BE (v : Int) (o : Int) (n : Mode) (s : State) : Result :=
  writeFlow 8 .be .signed n o v s

/-- Encode a signed 64-bit little-endian integer (R166). -/
def execWriteInt64LE (v : Int) (o : Int) (n : Mode) (s : State) : Result :=
  writeFlow 8 .le .signed n o v s

end Sys2Proof.Machine
end

