-- ==== Sys2Proof/Machine/Dispatch.lean ====
section
/-! DEFINITION. The meaning of every instruction: one arm per constructor of Instr, in the order of opcode_table.json. -/

namespace Sys2Proof.Machine

def exec (i : Instr) (s : State) : Host.Outcome State Fault Refusal :=
  match i with
  | .read o w e sg n => Sys2Proof.Machine.execRead o w e sg n s
  | .write o w v e sg n => Sys2Proof.Machine.execWrite o w v e sg n s
  | .readUIntBE w o n => Sys2Proof.Machine.execReadUIntBE w o n s
  | .readUIntLE w o n => Sys2Proof.Machine.execReadUIntLE w o n s
  | .readIntBE w o n => Sys2Proof.Machine.execReadIntBE w o n s
  | .readIntLE w o n => Sys2Proof.Machine.execReadIntLE w o n s
  | .writeUIntBE v w o n => Sys2Proof.Machine.execWriteUIntBE v w o n s
  | .writeUIntLE v w o n => Sys2Proof.Machine.execWriteUIntLE v w o n s
  | .writeIntBE v w o n => Sys2Proof.Machine.execWriteIntBE v w o n s
  | .writeIntLE v w o n => Sys2Proof.Machine.execWriteIntLE v w o n s
  | .readUInt8 o n => Sys2Proof.Machine.execReadUInt8 o n s
  | .readInt8 o n => Sys2Proof.Machine.execReadInt8 o n s
  | .writeUInt8 v o n => Sys2Proof.Machine.execWriteUInt8 v o n s
  | .writeInt8 v o n => Sys2Proof.Machine.execWriteInt8 v o n s
  | .readUInt16BE o n => Sys2Proof.Machine.execReadUInt16BE o n s
  | .readUInt16LE o n => Sys2Proof.Machine.execReadUInt16LE o n s
  | .readInt16BE o n => Sys2Proof.Machine.execReadInt16BE o n s
  | .readInt16LE o n => Sys2Proof.Machine.execReadInt16LE o n s
  | .writeUInt16BE v o n => Sys2Proof.Machine.execWriteUInt16BE v o n s
  | .writeUInt16LE v o n => Sys2Proof.Machine.execWriteUInt16LE v o n s
  | .writeInt16BE v o n => Sys2Proof.Machine.execWriteInt16BE v o n s
  | .writeInt16LE v o n => Sys2Proof.Machine.execWriteInt16LE v o n s
  | .readUInt24BE o n => Sys2Proof.Machine.execReadUInt24BE o n s
  | .readUInt24LE o n => Sys2Proof.Machine.execReadUInt24LE o n s
  | .readInt24BE o n => Sys2Proof.Machine.execReadInt24BE o n s
  | .readInt24LE o n => Sys2Proof.Machine.execReadInt24LE o n s
  | .writeUInt24BE v o n => Sys2Proof.Machine.execWriteUInt24BE v o n s
  | .writeUInt24LE v o n => Sys2Proof.Machine.execWriteUInt24LE v o n s
  | .writeInt24BE v o n => Sys2Proof.Machine.execWriteInt24BE v o n s
  | .writeInt24LE v o n => Sys2Proof.Machine.execWriteInt24LE v o n s
  | .readUInt32BE o n => Sys2Proof.Machine.execReadUInt32BE o n s
  | .readUInt32LE o n => Sys2Proof.Machine.execReadUInt32LE o n s
  | .readInt32BE o n => Sys2Proof.Machine.execReadInt32BE o n s
  | .readInt32LE o n => Sys2Proof.Machine.execReadInt32LE o n s
  | .writeUInt32BE v o n => Sys2Proof.Machine.execWriteUInt32BE v o n s
  | .writeUInt32LE v o n => Sys2Proof.Machine.execWriteUInt32LE v o n s
  | .writeInt32BE v o n => Sys2Proof.Machine.execWriteInt32BE v o n s
  | .writeInt32LE v o n => Sys2Proof.Machine.execWriteInt32LE v o n s
  | .readUInt40BE o n => Sys2Proof.Machine.execReadUInt40BE o n s
  | .readUInt40LE o n => Sys2Proof.Machine.execReadUInt40LE o n s
  | .readInt40BE o n => Sys2Proof.Machine.execReadInt40BE o n s
  | .readInt40LE o n => Sys2Proof.Machine.execReadInt40LE o n s
  | .writeUInt40BE v o n => Sys2Proof.Machine.execWriteUInt40BE v o n s
  | .writeUInt40LE v o n => Sys2Proof.Machine.execWriteUInt40LE v o n s
  | .writeInt40BE v o n => Sys2Proof.Machine.execWriteInt40BE v o n s
  | .writeInt40LE v o n => Sys2Proof.Machine.execWriteInt40LE v o n s
  | .readUInt48BE o n => Sys2Proof.Machine.execReadUInt48BE o n s
  | .readUInt48LE o n => Sys2Proof.Machine.execReadUInt48LE o n s
  | .readInt48BE o n => Sys2Proof.Machine.execReadInt48BE o n s
  | .readInt48LE o n => Sys2Proof.Machine.execReadInt48LE o n s
  | .writeUInt48BE v o n => Sys2Proof.Machine.execWriteUInt48BE v o n s
  | .writeUInt48LE v o n => Sys2Proof.Machine.execWriteUInt48LE v o n s
  | .writeInt48BE v o n => Sys2Proof.Machine.execWriteInt48BE v o n s
  | .writeInt48LE v o n => Sys2Proof.Machine.execWriteInt48LE v o n s
  | .readUInt56BE o n => Sys2Proof.Machine.execReadUInt56BE o n s
  | .readUInt56LE o n => Sys2Proof.Machine.execReadUInt56LE o n s
  | .readInt56BE o n => Sys2Proof.Machine.execReadInt56BE o n s
  | .readInt56LE o n => Sys2Proof.Machine.execReadInt56LE o n s
  | .writeUInt56BE v o n => Sys2Proof.Machine.execWriteUInt56BE v o n s
  | .writeUInt56LE v o n => Sys2Proof.Machine.execWriteUInt56LE v o n s
  | .writeInt56BE v o n => Sys2Proof.Machine.execWriteInt56BE v o n s
  | .writeInt56LE v o n => Sys2Proof.Machine.execWriteInt56LE v o n s
  | .readUInt64BE o n => Sys2Proof.Machine.execReadUInt64BE o n s
  | .readUInt64LE o n => Sys2Proof.Machine.execReadUInt64LE o n s
  | .readInt64BE o n => Sys2Proof.Machine.execReadInt64BE o n s
  | .readInt64LE o n => Sys2Proof.Machine.execReadInt64LE o n s
  | .writeUInt64BE v o n => Sys2Proof.Machine.execWriteUInt64BE v o n s
  | .writeUInt64LE v o n => Sys2Proof.Machine.execWriteUInt64LE v o n s
  | .writeInt64BE v o n => Sys2Proof.Machine.execWriteInt64BE v o n s
  | .writeInt64LE v o n => Sys2Proof.Machine.execWriteInt64LE v o n s

end Sys2Proof.Machine
end

