-- ==== Sys2Proof/Machine/Step.lean ====
section
/-! DEFINITION. One step: the host's next event takes place (assumption 1). A command is taken whole, run to its response,
and nothing is left over (spec 30_encoding.md R43, 20_memory.md R35, R37, 70_reset_and_hazards.md R185, R189). -/

namespace Sys2Proof.Machine

/-- One event, in the state it takes place in. -/
def takeEvent (ev : HostEvent) (s : State) : Result :=
  match ev with
  | .command r => exec (decode r) s
  | .present c => hostPresent c s
  | .store k b => hostStore k b s
  | .reset => hostReset s
  | .abandon r => abandonCommand (exec (decode r) s) s

/-- One step of the machine. -/
def step (s : State) : Host.Outcome State Fault Refusal :=
  match s.host with
  | [] => idle s
  | ev :: rest => takeEvent ev (s.afterEvent rest)

/-- The state in which the very next step runs the command whose bits are w: the host issues it first, and whatever the
host meant to do stays behind it (assumptions 1 and 2). -/
def State.withFetchWord (s : State) (nbits w : Nat) : State :=
  { s with host := .command (Request.ofWord (w % 2 ^ nbits)) :: s.host }

end Sys2Proof.Machine
end

