-- ==== Sys2Proof/Safety.lean ====
section
/-! DEFINITION. What counts as a good state, and the terms the statements compare the machine with: the value of a region
and the bytes of a value by significance (spec 20_memory.md R22, 40_dispatch.md R65), the state a command is to leave, and the
order of the failures (60_exceptions.md R175). None of these is used by the machine. -/

namespace Sys2Proof

/-- The instruction is a read (R45). -/
abbrev Instr.isRead (i : Instr) : Prop := i.fields.dir = .read

/-- The instruction is a write (R45). -/
abbrev Instr.isWrite (i : Instr) : Prop := i.fields.dir = .write

namespace Machine

/-! ### Good states -/

/-- RVAL as the integer it denotes, sext_64(RVAL), where it is valid (R53). -/
def Response.value (r : Response) : Option Int := r.rval.map BitVec.toInt

/-- A response never shows RVAL beside a failure, nor a value beyond the safe-integer bound (R53, R116, R167). -/
def Response.good (r : Response) : Prop :=
  (r.status ≠ .ok → r.rval = none) ∧ ∀ x, r.value = some x → -Config.maxSafe ≤ x ∧ x ≤ Config.maxSafe

/-- The invariant: the buffer is in its canonical form (R16), its length fits the port BLEN (R7, R54), and the response on
the ports, if there is one, is good. -/
def State.Inv (s : State) : Prop :=
  s.buf.wf ∧ s.buf.bufLen ≤ Config.maxBufLen ∧ ∀ r, s.response = some r → r.good

/-! ### Regions -/

/-- The address lies in the region of w cells at o (R30). -/
abbrev InRegion (o : Int) (w : Nat) (a : Int) : Prop := o ≤ a ∧ a < o + (w : Int)

/-- A strict command needs its whole region inside the buffer, a lenient one needs nothing (R31, R32). -/
abbrev Fits (n : Mode) (o : Int) (w : Nat) (s : State) : Prop := n = .lenient ∨ RegionOK o w s.buf.bufLen

/-! ### The flat value of a region and the flat bytes of a value -/

/-- The sum, over the significance indices k, of the byte of significance k times 256^k (R22, R23); a cell outside the
buffer counts as zero (R25). -/
def flatUnsigned (w : Nat) (e : Endian) (o : Int) (m : Memory) : Nat :=
  ((List.range w).map fun k => (byteAt m (addrOf o w e k)).toNat * 256 ^ k).sum

/-- The value of the region under a width, byte order and signedness, with no split made (R65). -/
def flatValue (w : Nat) (e : Endian) (sg : Signedness) (o : Int) (m : Memory) : Int :=
  match sg with
  | .unsigned => (flatUnsigned w e o m : Int)
  | .signed => sext (8 * w) (flatUnsigned w e o m)

/-- The significance index of the byte at address a of the region (R22). -/
def significanceAt (o : Int) (w : Nat) (e : Endian) (a : Int) : Nat :=
  match e with
  | .be => (o + (w : Int) - 1 - a).toNat
  | .le => (a - o).toNat

/-- The byte a write of v puts at address a of its region: floor(v / 256^k) mod 256 with k the significance (R22, R24); for a
negative v this is the byte of its two's-complement pattern (R29). -/
def storedByte (w : Nat) (e : Endian) (o : Int) (v : Int) (a : Int) : Byte :=
  BitVec.ofInt 8 (v / ((256 ^ significanceAt o w e a : Nat) : Int))

/-! ### What a command leaves -/

/-- The reset state with a buffer of these cells, in ascending index. -/
def State.withBytes (c : List Byte) : State := { State.reset with buf := Memory.ofBytes c }

/-- The state after a read that gives x: the response and nothing else (R67). -/
def State.afterRead (s : State) (x : Int) : State :=
  { s with response := some { status := .ok, rval := some (BitVec.ofInt 64 x) } }

/-- The state after a command that fails: the response and nothing else (R167). -/
def State.afterFailure (s : State) (f : Failure) : State :=
  { s with response := some { status := .failed f, rval := none } }

/-- From s to t, every cell of the buffer inside the region has taken the byte `g` gives for its address, every cell outside
the region is unchanged, no cell has come or gone, and the host's list is unchanged (R26, R33). -/
def StoresRegion (o : Int) (w : Nat) (g : Int → Byte) (s t : State) : Prop :=
  t.buf.bufLen = s.buf.bufLen ∧ t.host = s.host ∧
    ∀ a : Int, cellAt t.buf a = if InRegion o w a then (cellAt s.buf a).map (fun _ => g a) else cellAt s.buf a

/-- From s to t, a write of v has succeeded: STATUS is `OK`, RVAL is not valid, the region holds the bytes of v, nothing
else has changed (R68, R53). -/
def Writes (w : Nat) (e : Endian) (o : Int) (v : Int) (s t : State) : Prop :=
  t.response = some { status := .ok, rval := none } ∧ t.draws = s.draws ∧ StoresRegion o w (storedByte w e o v) s t

/-! ### The order of the failures -/

/-- The STATUS of a command with these fields: the first failure that applies, in the order of R175, or `OK`. -/
def firstFailure (f : Fields) (s : State) : Status :=
  if ¬ Supported f.width then .failed .unsupportedWidth
  else if f.dir = .write ∧ f.mode = .strict ∧ ¬ InRange f.width f.sgn f.value then .failed .outOfRange
  else if f.mode = .strict ∧ ¬ RegionOK f.offset f.width s.buf.bufLen then .failed .bufferOverrun
  else if f.dir = .read ∧ TooLarge (flatValue f.width f.endian f.sgn f.offset s.buf) then .failed .integerTooLarge
  else .ok

/-- The one command whose stored bytes the spec leaves open: a lenient write of a value outside the
nominal range that the saturation does not catch (R69). -/
abbrev DrawsBytes (f : Fields) : Prop :=
  f.dir = .write ∧ f.mode = .lenient ∧ Supported f.width ∧ ¬ InRange f.width f.sgn f.value ∧
    ¬ Saturates f.width f.sgn f.value

end Machine

end Sys2Proof
end

