-- ==== Sys2Proof/Certificates/Slice0/Obligations.lean ====
section
/-! DEFINITION. The statements for the provers. Each says in its docstring which rule of spec/ it formalises, or which log entry
of notes/assumptions/ it rests on. -/

open Sys2Proof Sys2Proof.Machine

/-! ### Encoding and decoding -/

/-- Decoding the encoded instruction gives it back, with every operand at every value the encoding admits, for every
instruction that the most specific row of the opcode map stands for (R58; entry 8). -/
def Obligations.DecodeOfEncode : Prop :=
  ∀ i : Instr, i.wellFormed = true → i.mostSpecific = true → decode (encode i) = i

/-- The decoder drops no field of a request but the ignored ones (R44 to R52), and answers with a well-formed instruction of
the most specific row (R58). -/
def Obligations.DecodeKeepsEveryField : Prop :=
  ∀ r : Request,
    (decode r).fields.dir = r.dir ∧ (decode r).fields.sgn = r.sgn ∧ (decode r).fields.mode = r.mode ∧
    (decode r).fields.width = r.width ∧ (decode r).fields.offset = r.offsetInt ∧
    (r.width ≠ 1 → (decode r).fields.endian = r.endian) ∧
    (r.dir = .write → (decode r).fields.value = r.valueInt) ∧
    (decode r).wellFormed = true ∧ (decode r).mostSpecific = true

/-- Requests written out from the rows of the opcode map (R57), their fields and operand ports, decode to the instruction
they stand for; the numbers of OFFSET and WVAL are two's complement (R51, R52). -/
def Obligations.WrittenOutRequestsDecode : Prop :=
  decode ⟨0b00000001#8, 5#32, 0#72⟩ = .readUInt8 5 .strict ∧
  decode ⟨0b11010001#8, 0xFFFFFFFF#32, 0xFFFFFFFFFFFFFFFFFE#72⟩ = .writeInt8 (-2) (-1) .lenient ∧
  decode ⟨0b01000010#8, 0#32, 0#72⟩ = .readInt16BE 0 .strict ∧
  decode ⟨0b10000011#8, 0#32, 66051#72⟩ = .writeUInt24BE 66051 0 .strict ∧
  decode ⟨0b00110100#8, 7#32, 0#72⟩ = .readUInt32LE 7 .lenient ∧
  decode ⟨0b11100101#8, 0#32, 1#72⟩ = .writeInt40LE 1 0 .strict ∧
  decode ⟨0b01100110#8, 0#32, 0#72⟩ = .readInt48LE 0 .strict ∧
  decode ⟨0b10010111#8, 0x80000000#32, 256#72⟩ = .writeUInt56BE 256 (-2147483648) .lenient ∧
  decode ⟨0b11101000#8, 0#32, 0x800000000000000000#72⟩ = .writeInt64LE (-2361183241434822606848) 0 .strict ∧
  decode ⟨0b00001001#8, 0#32, 0#72⟩ = .readUIntBE 9 0 .strict ∧
  decode ⟨0b11110000#8, 0#32, 3#72⟩ = .writeIntLE 3 0 0 .lenient

/-- A step whose host event is a command runs the decoded instruction, in the state in which the command has been taken
off the host's list and no response stands on the ports (R43; entries 1 and 7). -/
def Obligations.StepRunsTheDecodedCommand : Prop :=
  ∀ (r : Request) (rest : List HostEvent) (s : State), s.host = .command r :: rest →
    step s = exec (decode r) { s with host := rest, response := none }

/-- Issuing a well-formed instruction, whichever of the overlapping rows its name is, runs that instruction: the semantics do
not depend on the row the decoder picks (R58, R71). That a command is issued as an event at the front of the host's list, and
that no response stands on the ports while it runs, is the model's form (entries 1 and 7). -/
def Obligations.IssuedInstructionRuns : Prop :=
  ∀ (i : Instr) (rest : List HostEvent) (s : State), i.wellFormed = true → s.host = .command (encode i) :: rest →
    step s = exec i { s with host := rest, response := none }

/-- `Exec` (R66): for every request, the decoded instruction does what the common flow does with the request's own fields; it
answers with exactly one response, with an RVAL exactly when it is a read that ended with OK. -/
def Obligations.ExecIsTheCommandFlow : Prop :=
  ∀ (r : Request) (s : State), exec (decode r) s = execCommand r s ∧
    ∃ t x, execCommand r s = .next t ∧ t.response = some x ∧ (x.rval.isSome ↔ r.dir = .read ∧ x.status = .ok)

/-- Two well-formed instructions that are presented as the same request have the same effect: a fixed-width instruction is
the generic one with its width fixed (R71). -/
def Obligations.SameRequestSameEffect : Prop :=
  ∀ (i j : Instr) (s : State), i.wellFormed = true → j.wellFormed = true → encode i = encode j → exec i s = exec j s

/-- Ignored inputs (R50): END at width 1, WVAL for a read, and everything but WIDTH when the width is unsupported. -/
def Obligations.IgnoredInputsHaveNoEffect : Prop :=
  ∀ (r r' : Request) (s : State), r.width = r'.width →
    (Supported r.width → r.dir = r'.dir ∧ r.sgn = r'.sgn ∧ r.mode = r'.mode ∧ r.offset = r'.offset ∧
      (r.width ≠ 1 → r.endian = r'.endian) ∧ (r.dir = .write → r.wval = r'.wval)) →
    exec (decode r) s = exec (decode r') s

/-- The ten instructions that take the width as an operand fail with UnsupportedWidth at every other width, in both modes,
whatever the other operands are (R59, R64, R171). -/
def Obligations.UnsupportedWidthFails : Prop :=
  ∀ (w : Nat) (o v : Int) (e : Endian) (sg : Signedness) (n : Mode) (s : State), ¬ Supported w →
    exec (.read o w e sg n) s = .next (s.afterFailure .unsupportedWidth) ∧
    exec (.write o w v e sg n) s = .next (s.afterFailure .unsupportedWidth) ∧
    exec (.readUIntBE w o n) s = .next (s.afterFailure .unsupportedWidth) ∧
    exec (.readUIntLE w o n) s = .next (s.afterFailure .unsupportedWidth) ∧
    exec (.readIntBE w o n) s = .next (s.afterFailure .unsupportedWidth) ∧
    exec (.readIntLE w o n) s = .next (s.afterFailure .unsupportedWidth) ∧
    exec (.writeUIntBE v w o n) s = .next (s.afterFailure .unsupportedWidth) ∧
    exec (.writeUIntLE v w o n) s = .next (s.afterFailure .unsupportedWidth) ∧
    exec (.writeIntBE v w o n) s = .next (s.afterFailure .unsupportedWidth) ∧
    exec (.writeIntLE v w o n) s = .next (s.afterFailure .unsupportedWidth)

/-! ### Reads: where they complete, and what they give -/

/-- The 1-, 2- and 4-byte reads answer OK with the value of their cells whenever the mode lets them reach the region, and
change nothing but the response (R86, R89, R90, R93 to R96, R101 to R104). -/
def Obligations.NativeReadsAnswer : Prop :=
  ∀ (n : Mode) (o : Int) (s : State),
    (Fits n o 1 s →
      exec (.readUInt8 o n) s = .next (s.afterRead (flatValue 1 .be .unsigned o s.buf)) ∧
      exec (.readInt8 o n) s = .next (s.afterRead (flatValue 1 .be .signed o s.buf))) ∧
    (Fits n o 2 s →
      exec (.readUInt16BE o n) s = .next (s.afterRead (flatValue 2 .be .unsigned o s.buf)) ∧
      exec (.readUInt16LE o n) s = .next (s.afterRead (flatValue 2 .le .unsigned o s.buf)) ∧
      exec (.readInt16BE o n) s = .next (s.afterRead (flatValue 2 .be .signed o s.buf)) ∧
      exec (.readInt16LE o n) s = .next (s.afterRead (flatValue 2 .le .signed o s.buf))) ∧
    (Fits n o 4 s →
      exec (.readUInt32BE o n) s = .next (s.afterRead (flatValue 4 .be .unsigned o s.buf)) ∧
      exec (.readUInt32LE o n) s = .next (s.afterRead (flatValue 4 .le .unsigned o s.buf)) ∧
      exec (.readInt32BE o n) s = .next (s.afterRead (flatValue 4 .be .signed o s.buf)) ∧
      exec (.readInt32LE o n) s = .next (s.afterRead (flatValue 4 .le .signed o s.buf)))

/-- The 3-, 5- and 6-byte reads, made by the high/low split, answer OK with the flat value of their cells whenever the mode
lets them reach the region, and change nothing but the response (R110, R111, R118). -/
def Obligations.CompositeReadsAnswer : Prop :=
  ∀ (n : Mode) (o : Int) (s : State),
    (Fits n o 3 s →
      exec (.readUInt24BE o n) s = .next (s.afterRead (flatValue 3 .be .unsigned o s.buf)) ∧
      exec (.readUInt24LE o n) s = .next (s.afterRead (flatValue 3 .le .unsigned o s.buf)) ∧
      exec (.readInt24BE o n) s = .next (s.afterRead (flatValue 3 .be .signed o s.buf)) ∧
      exec (.readInt24LE o n) s = .next (s.afterRead (flatValue 3 .le .signed o s.buf))) ∧
    (Fits n o 5 s →
      exec (.readUInt40BE o n) s = .next (s.afterRead (flatValue 5 .be .unsigned o s.buf)) ∧
      exec (.readUInt40LE o n) s = .next (s.afterRead (flatValue 5 .le .unsigned o s.buf)) ∧
      exec (.readInt40BE o n) s = .next (s.afterRead (flatValue 5 .be .signed o s.buf)) ∧
      exec (.readInt40LE o n) s = .next (s.afterRead (flatValue 5 .le .signed o s.buf))) ∧
    (Fits n o 6 s →
      exec (.readUInt48BE o n) s = .next (s.afterRead (flatValue 6 .be .unsigned o s.buf)) ∧
      exec (.readUInt48LE o n) s = .next (s.afterRead (flatValue 6 .le .unsigned o s.buf)) ∧
      exec (.readInt48BE o n) s = .next (s.afterRead (flatValue 6 .be .signed o s.buf)) ∧
      exec (.readInt48LE o n) s = .next (s.afterRead (flatValue 6 .le .signed o s.buf)))

/-- The 7- and 8-byte reads answer OK with the flat value of their cells, wherever that value lies within the safe-integer
bound, and change nothing but the response (R110, R111, R116). -/
def Obligations.GuardedReadsAnswer : Prop :=
  ∀ (n : Mode) (o : Int) (s : State),
    (Fits n o 7 s →
      (¬ TooLarge (flatValue 7 .be .unsigned o s.buf) →
        exec (.readUInt56BE o n) s = .next (s.afterRead (flatValue 7 .be .unsigned o s.buf))) ∧
      (¬ TooLarge (flatValue 7 .le .unsigned o s.buf) →
        exec (.readUInt56LE o n) s = .next (s.afterRead (flatValue 7 .le .unsigned o s.buf))) ∧
      (¬ TooLarge (flatValue 7 .be .signed o s.buf) →
        exec (.readInt56BE o n) s = .next (s.afterRead (flatValue 7 .be .signed o s.buf))) ∧
      (¬ TooLarge (flatValue 7 .le .signed o s.buf) →
        exec (.readInt56LE o n) s = .next (s.afterRead (flatValue 7 .le .signed o s.buf)))) ∧
    (Fits n o 8 s →
      (¬ TooLarge (flatValue 8 .be .unsigned o s.buf) →
        exec (.readUInt64BE o n) s = .next (s.afterRead (flatValue 8 .be .unsigned o s.buf))) ∧
      (¬ TooLarge (flatValue 8 .le .unsigned o s.buf) →
        exec (.readUInt64LE o n) s = .next (s.afterRead (flatValue 8 .le .unsigned o s.buf))) ∧
      (¬ TooLarge (flatValue 8 .be .signed o s.buf) →
        exec (.readInt64BE o n) s = .next (s.afterRead (flatValue 8 .be .signed o s.buf))) ∧
      (¬ TooLarge (flatValue 8 .le .signed o s.buf) →
        exec (.readInt64LE o n) s = .next (s.afterRead (flatValue 8 .le .signed o s.buf))))

/-- The five reads that take the width as an operand answer OK at every supported width, where the value lies within the
safe-integer bound (R73, R75 to R78). -/
def Obligations.GenericReadsAnswer : Prop :=
  ∀ (w : Nat) (e : Endian) (sg : Signedness) (n : Mode) (o : Int) (s : State),
    (Supported w → Fits n o w s → ¬ TooLarge (flatValue w e sg o s.buf) →
      exec (.read o w e sg n) s = .next (s.afterRead (flatValue w e sg o s.buf))) ∧
    (Supported w → Fits n o w s → ¬ TooLarge (flatValue w .be .unsigned o s.buf) →
      exec (.readUIntBE w o n) s = .next (s.afterRead (flatValue w .be .unsigned o s.buf))) ∧
    (Supported w → Fits n o w s → ¬ TooLarge (flatValue w .le .unsigned o s.buf) →
      exec (.readUIntLE w o n) s = .next (s.afterRead (flatValue w .le .unsigned o s.buf))) ∧
    (Supported w → Fits n o w s → ¬ TooLarge (flatValue w .be .signed o s.buf) →
      exec (.readIntBE w o n) s = .next (s.afterRead (flatValue w .be .signed o s.buf))) ∧
    (Supported w → Fits n o w s → ¬ TooLarge (flatValue w .le .signed o s.buf) →
      exec (.readIntLE w o n) s = .next (s.afterRead (flatValue w .le .signed o s.buf)))

/-- The Safe-Integer Boundary Guard (R116): after a read has assembled its value, in either mode and after the bounds check,
a value beyond the bound ends the read with IntegerTooLarge, any other is returned. -/
def Obligations.GuardDecidesEveryRead : Prop :=
  ∀ (i : Instr) (s : State), i.isRead → Supported i.fields.width → Fits i.fields.mode i.fields.offset i.fields.width s →
    exec i s = .next
      (if flatValue i.fields.width i.fields.endian i.fields.sgn i.fields.offset s.buf > 9007199254740991 ∨
          flatValue i.fields.width i.fields.endian i.fields.sgn i.fields.offset s.buf < -9007199254740991
        then s.afterFailure .integerTooLarge
        else s.afterRead (flatValue i.fields.width i.fields.endian i.fields.sgn i.fields.offset s.buf))

/-- The boundary is strict (R117): 2^53 - 1 and its negation pass, 2^53 and its negation fail; DOC0's two 7-byte examples. -/
def Obligations.GuardBoundaryIsStrict : Prop :=
  exec (.readUInt64BE 0 .strict) (State.withBytes [0x00, 0x1f, 0xff, 0xff, 0xff, 0xff, 0xff, 0xff]) =
      .next ((State.withBytes [0x00, 0x1f, 0xff, 0xff, 0xff, 0xff, 0xff, 0xff]).afterRead 9007199254740991) ∧
  exec (.readUInt64BE 0 .strict) (State.withBytes [0x00, 0x20, 0x00, 0x00, 0x00, 0x00, 0x00, 0x00]) =
      .next ((State.withBytes [0x00, 0x20, 0x00, 0x00, 0x00, 0x00, 0x00, 0x00]).afterFailure .integerTooLarge) ∧
  exec (.readInt64BE 0 .strict) (State.withBytes [0xff, 0xe0, 0x00, 0x00, 0x00, 0x00, 0x00, 0x01]) =
      .next ((State.withBytes [0xff, 0xe0, 0x00, 0x00, 0x00, 0x00, 0x00, 0x01]).afterRead (-9007199254740991)) ∧
  exec (.readInt64BE 0 .strict) (State.withBytes [0xff, 0xe0, 0x00, 0x00, 0x00, 0x00, 0x00, 0x00]) =
      .next ((State.withBytes [0xff, 0xe0, 0x00, 0x00, 0x00, 0x00, 0x00, 0x00]).afterFailure .integerTooLarge) ∧
  exec (.readUInt56BE 0 .strict) (State.withBytes [0x1f, 0xff, 0xff, 0xff, 0xff, 0xff, 0xff]) =
      .next ((State.withBytes [0x1f, 0xff, 0xff, 0xff, 0xff, 0xff, 0xff]).afterRead 9007199254740991) ∧
  exec (.readUInt56BE 0 .strict) (State.withBytes [0xff, 0xff, 0xff, 0xff, 0xff, 0xff, 0xff]) =
      .next ((State.withBytes [0xff, 0xff, 0xff, 0xff, 0xff, 0xff, 0xff]).afterFailure .integerTooLarge)

/-- Which values the guard stops, in terms of bytes (R118): no read of width 1 to 6 is ever too large; an unsigned big-endian
8-byte read passes exactly when its first byte is 00 and its second at most 1f, a 7-byte one when its first is at most 1f. -/
def Obligations.GuardInTermsOfBytes : Prop :=
  (∀ (w : Nat) (e : Endian) (sg : Signedness) (o : Int) (m : Memory), 1 ≤ w → w ≤ 6 →
    ¬ TooLarge (flatValue w e sg o m)) ∧
  (∀ (o : Int) (m : Memory), ¬ TooLarge (flatValue 8 .be .unsigned o m) ↔
    byteAt m o = 0x00#8 ∧ (byteAt m (o + 1)).toNat ≤ 0x1f) ∧
  (∀ (o : Int) (m : Memory), ¬ TooLarge (flatValue 7 .be .unsigned o m) ↔ (byteAt m o).toNat ≤ 0x1f)

/-- RVAL (R53): when a read ends with OK, sext_64(RVAL) is the decoded value and lies within the safe-integer bound; for a write
and for any command that fails, RVAL has no value. -/
def Obligations.RvalIsTheDecodedValue : Prop :=
  ∀ (i : Instr) (s t : State), exec i s = .next t → ∃ r, t.response = some r ∧
    (i.isRead → r.status = .ok →
      r.value = some (flatValue i.fields.width i.fields.endian i.fields.sgn i.fields.offset s.buf) ∧
      -Config.maxSafe ≤ flatValue i.fields.width i.fields.endian i.fields.sgn i.fields.offset s.buf ∧
      flatValue i.fields.width i.fields.endian i.fields.sgn i.fields.offset s.buf ≤ Config.maxSafe) ∧
    (i.isWrite ∨ r.status ≠ .ok → r.rval = none)

/-- Endianness symmetry (the consequence drawn in R22): a little-endian read of the byte-reversed region gives the response of
the big-endian read, at every width, signedness and mode. -/
def Obligations.EndiannessSymmetry : Prop :=
  ∀ (w : Nat) (sg : Signedness) (n : Mode) (o : Int) (s s' t : State), Supported w →
    s'.buf.bufLen = s.buf.bufLen →
    (∀ i : Nat, i < w → byteAt s'.buf (o + (i : Int)) = byteAt s.buf (o + (w : Int) - 1 - (i : Int))) →
    exec (.read o w .be sg n) s = .next t →
    ∃ t', exec (.read o w .le sg n) s' = .next t' ∧ t'.response = t.response

/-- No access has an alignment requirement (R34): a read depends on where its region stands only through the bytes there and
the bounds rules, so two regions with the same bytes that both can be reached give the same response. -/
def Obligations.AlignmentDoesNotMatter : Prop :=
  ∀ (w : Nat) (e : Endian) (sg : Signedness) (n : Mode) (o o' : Int) (s s' t : State),
    Fits n o w s → Fits n o' w s' →
    (∀ i : Nat, i < w → byteAt s'.buf (o' + (i : Int)) = byteAt s.buf (o + (i : Int))) →
    exec (.read o w e sg n) s = .next t →
    ∃ t', exec (.read o' w e sg n) s' = .next t' ∧ t'.response = t.response

/-- A lenient read whose region names no cell of the buffer answers 0 (R25, R32, and the corner case of R73). The premise
that the buffer is canonical is the first clause of the invariant. -/
def Obligations.LenientReadOutsideIsZero : Prop :=
  ∀ (i : Instr) (s : State), i.isRead → Supported i.fields.width → i.fields.mode = .lenient → s.buf.wf →
    (∀ a : Int, InRegion i.fields.offset i.fields.width a → ¬ (0 ≤ a ∧ a < (s.buf.bufLen : Int))) →
    exec i s = .next (s.afterRead 0)

/-! ### Writes: where they complete, and what they store -/

/-- The 1-, 2- and 4-byte writes of a value in the nominal range answer OK, store its bytes and change nothing else (R87, R91,
R92, R97 to R100, R105 to R108). -/
def Obligations.NativeWritesAnswer : Prop :=
  ∀ (n : Mode) (v o : Int) (s : State),
    (InRange 1 .unsigned v → Fits n o 1 s →
      (∃ t, exec (.writeUInt8 v o n) s = .next t ∧ Writes 1 .be o v s t)) ∧
    (InRange 1 .signed v → Fits n o 1 s →
      (∃ t, exec (.writeInt8 v o n) s = .next t ∧ Writes 1 .be o v s t)) ∧
    (InRange 2 .unsigned v → Fits n o 2 s →
      (∃ t, exec (.writeUInt16BE v o n) s = .next t ∧ Writes 2 .be o v s t) ∧
      (∃ t, exec (.writeUInt16LE v o n) s = .next t ∧ Writes 2 .le o v s t)) ∧
    (InRange 2 .signed v → Fits n o 2 s →
      (∃ t, exec (.writeInt16BE v o n) s = .next t ∧ Writes 2 .be o v s t) ∧
      (∃ t, exec (.writeInt16LE v o n) s = .next t ∧ Writes 2 .le o v s t)) ∧
    (InRange 4 .unsigned v → Fits n o 4 s →
      (∃ t, exec (.writeUInt32BE v o n) s = .next t ∧ Writes 4 .be o v s t) ∧
      (∃ t, exec (.writeUInt32LE v o n) s = .next t ∧ Writes 4 .le o v s t)) ∧
    (InRange 4 .signed v → Fits n o 4 s →
      (∃ t, exec (.writeInt32BE v o n) s = .next t ∧ Writes 4 .be o v s t) ∧
      (∃ t, exec (.writeInt32LE v o n) s = .next t ∧ Writes 4 .le o v s t))

/-- The 3-, 5- and 6-byte writes of a value in the nominal range, made by the inverse split, answer OK, store its bytes and
change nothing else (R112). -/
def Obligations.CompositeWritesAnswer : Prop :=
  ∀ (n : Mode) (v o : Int) (s : State),
    (InRange 3 .unsigned v → Fits n o 3 s →
      (∃ t, exec (.writeUInt24BE v o n) s = .next t ∧ Writes 3 .be o v s t) ∧
      (∃ t, exec (.writeUInt24LE v o n) s = .next t ∧ Writes 3 .le o v s t)) ∧
    (InRange 3 .signed v → Fits n o 3 s →
      (∃ t, exec (.writeInt24BE v o n) s = .next t ∧ Writes 3 .be o v s t) ∧
      (∃ t, exec (.writeInt24LE v o n) s = .next t ∧ Writes 3 .le o v s t)) ∧
    (InRange 5 .unsigned v → Fits n o 5 s →
      (∃ t, exec (.writeUInt40BE v o n) s = .next t ∧ Writes 5 .be o v s t) ∧
      (∃ t, exec (.writeUInt40LE v o n) s = .next t ∧ Writes 5 .le o v s t)) ∧
    (InRange 5 .signed v → Fits n o 5 s →
      (∃ t, exec (.writeInt40BE v o n) s = .next t ∧ Writes 5 .be o v s t) ∧
      (∃ t, exec (.writeInt40LE v o n) s = .next t ∧ Writes 5 .le o v s t)) ∧
    (InRange 6 .unsigned v → Fits n o 6 s →
      (∃ t, exec (.writeUInt48BE v o n) s = .next t ∧ Writes 6 .be o v s t) ∧
      (∃ t, exec (.writeUInt48LE v o n) s = .next t ∧ Writes 6 .le o v s t)) ∧
    (InRange 6 .signed v → Fits n o 6 s →
      (∃ t, exec (.writeInt48BE v o n) s = .next t ∧ Writes 6 .be o v s t) ∧
      (∃ t, exec (.writeInt48LE v o n) s = .next t ∧ Writes 6 .le o v s t))

/-- The 7- and 8-byte writes of any value in the nominal range, also one beyond the safe-integer bound, answer OK, store its
exact bytes and change nothing else (R112, R119, R120). -/
def Obligations.WideWritesAnswer : Prop :=
  ∀ (n : Mode) (v o : Int) (s : State),
    (InRange 7 .unsigned v → Fits n o 7 s →
      (∃ t, exec (.writeUInt56BE v o n) s = .next t ∧ Writes 7 .be o v s t) ∧
      (∃ t, exec (.writeUInt56LE v o n) s = .next t ∧ Writes 7 .le o v s t)) ∧
    (InRange 7 .signed v → Fits n o 7 s →
      (∃ t, exec (.writeInt56BE v o n) s = .next t ∧ Writes 7 .be o v s t) ∧
      (∃ t, exec (.writeInt56LE v o n) s = .next t ∧ Writes 7 .le o v s t)) ∧
    (InRange 8 .unsigned v → Fits n o 8 s →
      (∃ t, exec (.writeUInt64BE v o n) s = .next t ∧ Writes 8 .be o v s t) ∧
      (∃ t, exec (.writeUInt64LE v o n) s = .next t ∧ Writes 8 .le o v s t)) ∧
    (InRange 8 .signed v → Fits n o 8 s →
      (∃ t, exec (.writeInt64BE v o n) s = .next t ∧ Writes 8 .be o v s t) ∧
      (∃ t, exec (.writeInt64LE v o n) s = .next t ∧ Writes 8 .le o v s t))

/-- The five writes that take the width as an operand answer OK at every supported width for a value in the nominal range
(R74, R79 to R82). -/
def Obligations.GenericWritesAnswer : Prop :=
  ∀ (w : Nat) (e : Endian) (sg : Signedness) (n : Mode) (v o : Int) (s : State),
    (Supported w → InRange w sg v → Fits n o w s →
      ∃ t, exec (.write o w v e sg n) s = .next t ∧ Writes w e o v s t) ∧
    (Supported w → InRange w .unsigned v → Fits n o w s →
      ∃ t, exec (.writeUIntBE v w o n) s = .next t ∧ Writes w .be o v s t) ∧
    (Supported w → InRange w .unsigned v → Fits n o w s →
      ∃ t, exec (.writeUIntLE v w o n) s = .next t ∧ Writes w .le o v s t) ∧
    (Supported w → InRange w .signed v → Fits n o w s →
      ∃ t, exec (.writeIntBE v w o n) s = .next t ∧ Writes w .be o v s t) ∧
    (Supported w → InRange w .signed v → Fits n o w s →
      ∃ t, exec (.writeIntLE v w o n) s = .next t ∧ Writes w .le o v s t)

/-- A lenient 7- or 8-byte write of a value at or above the nominal maximum answers OK and stores the maximum (R120, R121). -/
def Obligations.LenientWritesSaturate : Prop :=
  ∀ (v o : Int) (s : State),
    (maxVal 7 .unsigned ≤ v →
      (∃ t, exec (.writeUInt56BE v o .lenient) s = .next t ∧ Writes 7 .be o (maxVal 7 .unsigned) s t) ∧
      (∃ t, exec (.writeUInt56LE v o .lenient) s = .next t ∧ Writes 7 .le o (maxVal 7 .unsigned) s t)) ∧
    (maxVal 7 .signed ≤ v →
      (∃ t, exec (.writeInt56BE v o .lenient) s = .next t ∧ Writes 7 .be o (maxVal 7 .signed) s t) ∧
      (∃ t, exec (.writeInt56LE v o .lenient) s = .next t ∧ Writes 7 .le o (maxVal 7 .signed) s t)) ∧
    (maxVal 8 .unsigned ≤ v →
      (∃ t, exec (.writeUInt64BE v o .lenient) s = .next t ∧ Writes 8 .be o (maxVal 8 .unsigned) s t) ∧
      (∃ t, exec (.writeUInt64LE v o .lenient) s = .next t ∧ Writes 8 .le o (maxVal 8 .unsigned) s t)) ∧
    (maxVal 8 .signed ≤ v →
      (∃ t, exec (.writeInt64BE v o .lenient) s = .next t ∧ Writes 8 .be o (maxVal 8 .signed) s t) ∧
      (∃ t, exec (.writeInt64LE v o .lenient) s = .next t ∧ Writes 8 .le o (maxVal 8 .signed) s t))

/-- The saturation emits the literal pattern (R120): the bytes of the nominal maximum are all ff when unsigned, 7f at the most
significant place and ff elsewhere when signed. -/
def Obligations.MaximumHasTheLiteralPattern : Prop :=
  ∀ (w : Nat) (e : Endian) (sg : Signedness) (o : Int) (i : Nat), w = 7 ∨ w = 8 → i < w →
    (maxPattern w e sg)[i]? = some (storedByte w e o (maxVal w sg) (o + (i : Int))) ∧
    (maxPattern w e sg)[i]? = some (if sg = .signed ∧ i = (match e with | .be => 0 | .le => w - 1) then 0x7F#8 else 0xFF#8)

/-- A lenient write of a value outside the nominal range that the saturation does not catch answers OK and leaves a fresh
free byte in every cell of its region, and nothing else changes (R69). That the free bytes are counted by a field of the
state is the model's choice (entry 5); the statement holds for every value of the field and of the bytes. -/
def Obligations.LenientOutOfRangeLeavesFreeBytes : Prop :=
  ∀ (i : Instr) (s : State), DrawsBytes i.fields →
    ∃ t, exec i s = .next t ∧ t.response = some { status := .ok, rval := none } ∧
      t.draws = s.draws + i.fields.width ∧
      StoresRegion i.fields.offset i.fields.width
        (fun a => Config.draw (s.draws + (a - i.fields.offset).toNat)) s t

/-- Footprint of a write (R33): no cell outside the region and the buffer changes, a failure changes no cell, and a strict
success sets every cell of the region. The premise that the buffer is canonical is the first clause of the invariant. -/
def Obligations.WriteFootprint : Prop :=
  ∀ (i : Instr) (s t : State), i.isWrite → s.buf.wf → exec i s = .next t →
    (∀ a : Int, ¬ (InRegion i.fields.offset i.fields.width a ∧ 0 ≤ a ∧ a < (s.buf.bufLen : Int)) →
      cellAt t.buf a = cellAt s.buf a) ∧
    (∀ r, t.response = some r → r.status ≠ .ok → t.buf = s.buf) ∧
    (∀ r, t.response = some r → r.status = .ok → i.fields.mode = .strict →
      ∀ a : Int, InRegion i.fields.offset i.fields.width a →
        cellAt t.buf a = some (storedByte i.fields.width i.fields.endian i.fields.offset i.fields.value a))

/-! ### Every command -/

/-- The frame of all seventy instructions (R16, R20, R33, R45): the length of the buffer and the host's list never change, a
read changes no cell, a write changes no cell outside its region, and free bytes are used only by the writes of R69. -/
def Obligations.CommandFrame : Prop :=
  ∀ (i : Instr) (s t : State), exec i s = .next t →
    t.buf.bufLen = s.buf.bufLen ∧ t.host = s.host ∧ (i.isRead → t.buf = s.buf) ∧
    (∀ a : Int, ¬ InRegion i.fields.offset i.fields.width a → cellAt t.buf a = cellAt s.buf a) ∧
    (¬ DrawsBytes i.fields → t.draws = s.draws)

/-- Every command of every state is answered, with exactly one response, in which RVAL is valid exactly for a successful read
(R43, R53, R66): no instruction stops the machine (R170; entry 16). -/
def Obligations.EveryCommandIsAnswered : Prop :=
  ∀ (i : Instr) (s : State), ∃ t r, exec i s = .next t ∧ t.response = some r ∧
    (r.rval.isSome ↔ i.isRead ∧ r.status = .ok)

/-- Priority (R175): when several failure conditions hold, exactly one is reported, the first in the order UnsupportedWidth,
OutOfRange, BufferOverrun, IntegerTooLarge; and OK when none holds. -/
def Obligations.StatusIsTheFirstFailure : Prop :=
  ∀ (i : Instr) (s : State), ∃ t, exec i s = .next t ∧
    t.response.map Response.status = some (firstFailure i.fields s)

/-- What raising a failure does (R167): STATUS is the failure, RVAL is not valid, no cell of the buffer is changed, and
nothing else happens. -/
def Obligations.FailureChangesNothingElse : Prop :=
  ∀ (i : Instr) (s t : State) (f : Failure) (x : Option (BitVec 64)), exec i s = .next t →
    t.response = some { status := .failed f, rval := x } → t = s.afterFailure f

/-- After a failure (R169): any next command does exactly what it would have done had the failed one never been issued, and
the same command on the same buffer fails in the same way again. -/
def Obligations.FailureLeavesNoTrace : Prop :=
  ∀ (i j : Instr) (s t : State) (f : Failure) (x : Option (BitVec 64)), exec i s = .next t →
    t.response = some { status := .failed f, rval := x } → exec j t = exec j s ∧ exec i t = .next t

/-- A command depends on nothing but itself and the buffer (R9, R66, R181): two states with the same buffer give the same
response, and the same buffer after it but for the free bytes of R69. -/
def Obligations.OnlyTheBufferMatters : Prop :=
  ∀ (i : Instr) (s s' t : State), s.buf = s'.buf → exec i s = .next t →
    ∃ t', exec i s' = .next t' ∧ t'.response = t.response ∧ (¬ DrawsBytes i.fields → t'.buf = t.buf)

/-- Lenient mode takes checks away and nothing else (R48, R176): where a strict command succeeds, the lenient one leaves the
same state. -/
def Obligations.StrictSuccessIsLenientSuccess : Prop :=
  ∀ (w : Nat) (e : Endian) (sg : Signedness) (o v : Int) (s t : State) (x : Option (BitVec 64)),
    t.response = some { status := .ok, rval := x } →
    (exec (.read o w e sg .strict) s = .next t → exec (.read o w e sg .lenient) s = .next t) ∧
    (exec (.write o w v e sg .strict) s = .next t → exec (.write o w v e sg .lenient) s = .next t)

/-- Round trip (R72): a write of a value in the nominal range to a region inside the buffer succeeds in either mode; the read
of the same width, byte order, signedness and offset that follows gives the value back when it is within the safe-integer
bound and fails with IntegerTooLarge when it is not. -/
def Obligations.RoundTrip : Prop :=
  ∀ (i j : Instr) (s : State), i.isWrite → j.isRead → i.fields.width = j.fields.width →
    i.fields.endian = j.fields.endian → i.fields.sgn = j.fields.sgn → i.fields.offset = j.fields.offset →
    Supported i.fields.width → InRange i.fields.width i.fields.sgn i.fields.value →
    s.buf.wf → RegionOK i.fields.offset i.fields.width s.buf.bufLen →
    ∃ t, exec i s = .next t ∧ t.response = some { status := .ok, rval := none } ∧
      (¬ TooLarge i.fields.value → exec j t = .next (t.afterRead i.fields.value)) ∧
      (TooLarge i.fields.value → exec j t = .next (t.afterFailure .integerTooLarge))

/-- An empty buffer is legal (R54): every strict read fails with BufferOverrun, so does every strict write of a value in the
nominal range (any other fails with OutOfRange before, R175), every lenient read gives 0 and every lenient write
succeeds and changes nothing. -/
def Obligations.EmptyBufferIsLegal : Prop :=
  ∀ (i : Instr) (s : State), s.buf = [] → Supported i.fields.width →
    (i.fields.mode = .strict → i.isRead → exec i s = .next (s.afterFailure .bufferOverrun)) ∧
    (i.fields.mode = .strict → i.isWrite → InRange i.fields.width i.fields.sgn i.fields.value →
      exec i s = .next (s.afterFailure .bufferOverrun)) ∧
    (i.fields.mode = .lenient → i.isRead → exec i s = .next (s.afterRead 0)) ∧
    (i.fields.mode = .lenient → i.isWrite → ∃ t, exec i s = .next t ∧
      t.response = some { status := .ok, rval := none } ∧ t.buf = [])

/-! ### The codec's parts -/

/-- MemRead (R25): a cell inside the buffer is read as it stands, any other address reads as zero. -/
def Obligations.MemReadRule : Prop :=
  ∀ (m : Memory) (a : Int) (n i : Nat), m.wf → i < n → (memRead a n m).length = n ∧
    (0 ≤ a + (i : Int) ∧ a + (i : Int) < (m.bufLen : Int) → (memRead a n m)[i]? = cellAt m (a + (i : Int))) ∧
    (¬ (0 ≤ a + (i : Int) ∧ a + (i : Int) < (m.bufLen : Int)) → (memRead a n m)[i]? = some 0#8)

/-- MemWrite (R26): each byte lands in its own cell when that is inside the buffer and is dropped when it is not; no other cell
changes and the buffer does not grow. -/
def Obligations.MemWriteRule : Prop :=
  ∀ (m : Memory) (a k : Int) (bs : List Byte), m.wf → (memWrite a bs m).bufLen = m.bufLen ∧
    cellAt (memWrite a bs m) k =
      if InRegion a bs.length k ∧ 0 ≤ k ∧ k < (m.bufLen : Int) then bs[(k - a).toNat]? else cellAt m k

/-- The two byte orders (R23, R24): `Bytes` and the value of a byte string are inverse to each other, and the big-endian string
is the little-endian one reversed. -/
def Obligations.ByteStringsAreInverse : Prop :=
  ∀ (e : Endian) (n u : Nat) (c : List Byte),
    (u < 256 ^ n → uBytes e (bytesOf e n u) = u) ∧ bytesOf e c.length (uBytes e c) = c ∧
    uBytes e c < 256 ^ c.length ∧ bytesOf .be n u = (bytesOf .le n u).reverse

/-- The exact native reads (R27, R28): the value of the bytes and its sign extension, each in its range; for one byte the
order has no effect. -/
def Obligations.NativeReadPrimitives : Prop :=
  ∀ (a : Int) (n : Nat) (e : Endian) (m : Memory), n = 1 ∨ n = 2 ∨ n = 4 →
    natReadU a n e m = (uBytes e (memRead a n m) : Int) ∧
    0 ≤ natReadU a n e m ∧ natReadU a n e m ≤ ((256 ^ n : Nat) : Int) - 1 ∧
    natReadS a n e m = sext (8 * n) (uBytes e (memRead a n m)) ∧
    -((2 ^ (8 * n - 1) : Nat) : Int) ≤ natReadS a n e m ∧ natReadS a n e m ≤ ((2 ^ (8 * n - 1) : Nat) : Int) - 1 ∧
    natReadU a 1 .be m = natReadU a 1 .le m ∧ natReadS a 1 .be m = natReadS a 1 .le m

/-- The exact native write (R29): a non-negative value is stored as itself, a negative one as its two's-complement pattern. -/
def Obligations.NativeWritePrimitive : Prop :=
  ∀ (a x : Int) (n : Nat) (e : Endian) (m : Memory), n = 1 ∨ n = 2 ∨ n = 4 →
    -((2 ^ (8 * n - 1) : Nat) : Int) ≤ x → x ≤ ((256 ^ n : Nat) : Int) - 1 →
    (0 ≤ x → natWrite a n e x m = memWrite a (bytesOf e n x.toNat) m) ∧
    (x < 0 → natWrite a n e x m = memWrite a (bytesOf e n (x + ((256 ^ n : Nat) : Int)).toNat) m)

/-- Sub-regions of a composite width (R109): the table of HW, LW and SH, that HW and LW make up the width, that SH is
256^LW, and where the two parts stand. -/
def Obligations.SplitTable : Prop :=
  [3, 5, 6, 7, 8].map (fun w => (highWidth w, lowWidth w, splitBase w)) =
    [(1, 2, 65536), (1, 4, 4294967296), (2, 4, 4294967296), (3, 4, 4294967296), (4, 4, 4294967296)] ∧
  ∀ w ∈ [3, 5, 6, 7, 8], highWidth w + lowWidth w = w ∧ splitBase w = ((256 ^ lowWidth w : Nat) : Int) ∧
    ∀ o : Int, highAddr o w .be = o ∧ lowAddr o w .be = o + (highWidth w : Int) ∧
      highAddr o w .le = o + (lowWidth w : Int) ∧ lowAddr o w .le = o

/-- The split equals the flat interpretation (R115): on reads, unsigned and signed, and on writes of any value of either
nominal range, cell by cell, inside the buffer and across its ends. -/
def Obligations.SplitIsFlat : Prop :=
  ∀ (w : Nat) (e : Endian) (o : Int) (m : Memory), w ∈ [3, 5, 6, 7, 8] →
    decodeU w e o m = (uBytes e (memRead o w m) : Int) ∧
    decodeS w e o m = sext (8 * w) (uBytes e (memRead o w m)) ∧
    ∀ (sg : Signedness) (v : Int), InRange w sg v →
      encodeSplit w e o v m = memWrite o (bytesOf e w (patternOf w v)) m

/-- The laws of the quotient and the remainder of the split (R112, R114 (3) and (4)): the remainder is never negative, the two
parts give the value back, and the quotient rounds toward minus infinity. -/
def Obligations.QuotientAndRemainder : Prop :=
  (∀ (w : Nat) (v : Int), 0 ≤ lowPart w v ∧ lowPart w v < splitBase w ∧ joinParts w (highPart w v) (lowPart w v) = v) ∧
  highPart 8 (-1) = -1 ∧ lowPart 8 (-1) = 4294967295 ∧ highPart 8 (-4294967296) = -1 ∧ lowPart 8 (-4294967296) = 0 ∧
  highPart 8 (-4294967297) = -2 ∧ highPart 8 0 = 0 ∧ lowPart 8 0 = 0

/-- The nominal ranges (the full table of R8). The signed minima are those of two's complement, which the spec marks as
taken from general knowledge (entry 17). -/
def Obligations.NominalRangeTable : Prop :=
  [1, 2, 3, 4, 5, 6, 7, 8].map (fun w => (minVal w .unsigned, maxVal w .unsigned, minVal w .signed, maxVal w .signed)) =
    [(0, 255, -128, 127), (0, 65535, -32768, 32767), (0, 16777215, -8388608, 8388607),
      (0, 4294967295, -2147483648, 2147483647), (0, 1099511627775, -549755813888, 549755813887),
      (0, 281474976710655, -140737488355328, 140737488355327),
      (0, 72057594037927935, -36028797018963968, 36028797018963967),
      (0, 18446744073709551615, -9223372036854775808, 9223372036854775807)]

/-- The numbers of the STATUS codes (R55, R170). -/
def Obligations.StatusCodes : Prop :=
  [Status.ok, .failed .unsupportedWidth, .failed .outOfRange, .failed .bufferOverrun, .failed .integerTooLarge].map
    (fun x => x.code.toNat) = [0, 1, 2, 3, 4]

/-! ### The machine between commands -/

/-- The invariant is kept by every step, from every state that has it: the buffer stays canonical and within the reach of BLEN,
and no response shows an RVAL that R53 and R116 forbid. -/
def Obligations.InvariantKept : Prop :=
  ∀ s t : State, s.Inv → step s = .next t → t.Inv

/-- A step always answers a next state, but for the two host events that lie outside the spec: presenting more cells than BLEN
can carry, and storing where there is no cell (R170, R177; entries 15 and 16). No step faults. -/
def Obligations.StepStopsOnlyOnHostMisuse : Prop :=
  ∀ s : State, (∃ t, step s = .next t) ∨
    (∃ bs rest, s.host = .present bs :: rest ∧ 2147483647 < bs.length ∧ step s = .refused .bufferTooLong) ∨
    (∃ k b rest, s.host = .store k b :: rest ∧ s.buf.bufLen ≤ k ∧ step s = .refused .hostStoreOutsideBuffer)

/-- The invariant holds after reset. -/
def Obligations.InvariantAtReset : Prop := State.reset.Inv

/-- What reset leaves: no response has a defined value (R18, R180). That no buffer has been presented yet, no free byte used and
no event waiting is the model's choice (entries 4, 5 and 1). -/
def Obligations.ResetState : Prop :=
  State.reset.response = none ∧ State.reset.buf.bufLen = 0 ∧ State.reset.draws = 0 ∧ State.reset.host = []

/-- Reset between commands clears nothing and loads nothing (R18, R180), and MBIC with nothing to do stays idle (R180): the
buffer is not touched, and no response has a defined value. The events themselves are the model's form (entries 1, 6, 7). -/
def Obligations.ResetAndIdleTouchNothing : Prop :=
  ∀ (rest : List HostEvent) (s : State),
    (s.host = .reset :: rest → step s = .next { s with host := rest, response := none }) ∧
    (s.host = [] → step s = .next { s with response := none })

/-- Reset during a command (R182): the command gives no response; each cell holds its old value or the one the command would
have left; a read leaves the buffer unchanged, and no cell outside the region is affected. Which value a cell holds is a
free value, and the event and the counter are the model's form (entry 11); the statement holds for every choice. -/
def Obligations.ResetDuringCommand : Prop :=
  ∀ (r : Request) (rest : List HostEvent) (s : State), s.host = .abandon r :: rest →
    ∃ t u, exec (decode r) { s with host := rest, response := none } = .next u ∧ step s = .next t ∧
      t.response = none ∧ t.host = rest ∧ t.buf.bufLen = s.buf.bufLen ∧
      (∀ a : Int, cellAt t.buf a = cellAt s.buf a ∨ cellAt t.buf a = cellAt u.buf a) ∧
      ((decode r).isRead → ∀ a : Int, cellAt t.buf a = cellAt s.buf a) ∧
      (∀ a : Int, ¬ InRegion (decode r).fields.offset (decode r).fields.width a → cellAt t.buf a = cellAt s.buf a)

/-- The host presents a buffer (R16, R54, R183): its bytes are the cells, in ascending index, and BUF_LEN is how many there
are; one longer than BLEN can carry is refused (entries 1, 3 and 15). -/
def Obligations.HostPresentsBuffer : Prop :=
  ∀ (bs : List Byte) (rest : List HostEvent) (s : State), s.host = .present bs :: rest →
    (bs.length ≤ 2147483647 → ∃ t, step s = .next t ∧ t.buf.wf ∧ t.buf.bufLen = bs.length ∧
      (∀ k : Nat, cellAt t.buf (k : Int) = bs[k]?) ∧ t.response = none ∧ t.draws = s.draws ∧ t.host = rest) ∧
    (2147483647 < bs.length → step s = .refused .bufferTooLong)

/-- The host writes one cell between commands and no other cell changes (R38, R184); an index that names no cell is refused
(entries 1 and 15). The premise that the buffer is canonical is the first clause of the invariant. -/
def Obligations.HostStoresOneCell : Prop :=
  ∀ (k : Nat) (b : Byte) (rest : List HostEvent) (s : State), s.host = .store k b :: rest → s.buf.wf →
    (k < s.buf.bufLen → ∃ t, step s = .next t ∧ t.buf.bufLen = s.buf.bufLen ∧
      (∀ a : Int, cellAt t.buf a = if a = (k : Int) then some b else cellAt s.buf a) ∧
      t.response = none ∧ t.draws = s.draws ∧ t.host = rest) ∧
    (s.buf.bufLen ≤ k → step s = .refused .hostStoreOutsideBuffer)
end

