-- ==== Sys2Proof/Laws/Encoding.lean ====
section
/-! SUPPORT. The command word that the encoder packs: its fields, and the row of the opcode table it belongs to (spec
30_encoding.md R44, R57). -/

namespace Sys2Proof.Laws

/-- The fields of a packed command word, over all its 256 values. -/
theorem packCmd_fields (d : Dir) (sg : Signedness) (e : Endian) (n : Mode) (k : Fin 16) :
    ((packCmd d sg e n k).getLsbD 7 = (d == .write) ∧ (packCmd d sg e n k).getLsbD 6 = (sg == .signed)) ∧
    ((packCmd d sg e n k).getLsbD 5 = (e == .le) ∧ (packCmd d sg e n k).getLsbD 4 = (n == .lenient)) ∧
    (packCmd d sg e n k).toNat = d.weight + sg.weight + e.weight + n.weight + k := by
  revert k
  cases d <;> cases sg <;> cases e <;> cases n <;> decide

/-- Only the low four bits of the width reach the word (R49). -/
theorem packCmd_mod (d : Dir) (sg : Signedness) (e : Endian) (n : Mode) (w : Nat) :
    packCmd d sg e n w = packCmd d sg e n ((⟨w % 16, Nat.mod_lt w (by decide)⟩ : Fin 16) : Nat) := by
  simp [packCmd]

/-- A row with the width fixed: its match and mask hold at both values of LEN (R57). -/
theorem packCmd_row (d : Dir) (sg : Signedness) (e : Endian) (n : Mode) (w mask mtch : Nat)
    (h : ∀ n' ∈ [Mode.strict, Mode.lenient], (packCmd d sg e n' w).toNat &&& mask = mtch ∧
      (if (packCmd d sg e n' w).getLsbD 4 then Mode.lenient else .strict) = n') :
    (packCmd d sg e n w).toNat &&& mask = mtch ∧
      (if (packCmd d sg e n w).getLsbD 4 then Mode.lenient else .strict) = n :=
  h n (by cases n <;> simp)

/-- A generic row: DIR, SGN and END are fixed, the width is free (R57). -/
theorem packCmd_generic (d : Dir) (sg : Signedness) (e : Endian) (n : Mode) (w : Nat) :
    (packCmd d sg e n w).toNat &&& 0xE0 = d.weight + sg.weight + e.weight ∧
      (if (packCmd d sg e n w).getLsbD 4 then Mode.lenient else .strict) = n := by
  rw [packCmd_mod]
  generalize (⟨w % 16, Nat.mod_lt w (by decide)⟩ : Fin 16) = k
  revert k
  cases d <;> cases sg <;> cases e <;> cases n <;> decide

/-- A fully generic row: only DIR is fixed (R57). -/
theorem packCmd_dir (d : Dir) (sg : Signedness) (e : Endian) (n : Mode) (w : Nat) :
    (packCmd d sg e n w).toNat &&& 0x80 = d.weight ∧
      (if (packCmd d sg e n w).getLsbD 4 then Mode.lenient else .strict) = n := by
  rw [packCmd_mod]
  generalize (⟨w % 16, Nat.mod_lt w (by decide)⟩ : Fin 16) = k
  revert k
  cases d <;> cases sg <;> cases e <;> cases n <;> decide

end Sys2Proof.Laws
end

