-- ==== Sys2Proof/Laws/State.lean ====
section
/-! SUPPORT. One lemma for each field and each update of the state, so that no later proof unfolds a record update. -/

namespace Sys2Proof.Machine

@[simp] theorem respond_buf (s : State) (r : Response) : (s.respond r).buf = s.buf := rfl
@[simp] theorem respond_response (s : State) (r : Response) : (s.respond r).response = some r := rfl
@[simp] theorem respond_draws (s : State) (r : Response) : (s.respond r).draws = s.draws := rfl
@[simp] theorem respond_host (s : State) (r : Response) : (s.respond r).host = s.host := rfl
@[simp] theorem respond_respond (s : State) (r r' : Response) : (s.respond r).respond r' = s.respond r' := rfl

@[simp] theorem answerRead_buf (s : State) (x : Int) : (s.answerRead x).buf = s.buf := rfl
@[simp] theorem answerRead_response (s : State) (x : Int) :
    (s.answerRead x).response = some ⟨.ok, some (BitVec.ofInt 64 x)⟩ := rfl
@[simp] theorem answerRead_draws (s : State) (x : Int) : (s.answerRead x).draws = s.draws := rfl
@[simp] theorem answerRead_host (s : State) (x : Int) : (s.answerRead x).host = s.host := rfl

@[simp] theorem answerWrite_buf (s : State) (m : Memory) : (s.answerWrite m).buf = m := rfl
@[simp] theorem answerWrite_response (s : State) (m : Memory) : (s.answerWrite m).response = some ⟨.ok, none⟩ := rfl
@[simp] theorem answerWrite_draws (s : State) (m : Memory) : (s.answerWrite m).draws = s.draws := rfl
@[simp] theorem answerWrite_host (s : State) (m : Memory) : (s.answerWrite m).host = s.host := rfl

@[simp] theorem failWith_buf (s : State) (f : Failure) : (s.failWith f).buf = s.buf := rfl
@[simp] theorem failWith_response (s : State) (f : Failure) : (s.failWith f).response = some ⟨.failed f, none⟩ := rfl
@[simp] theorem failWith_draws (s : State) (f : Failure) : (s.failWith f).draws = s.draws := rfl
@[simp] theorem failWith_host (s : State) (f : Failure) : (s.failWith f).host = s.host := rfl

@[simp] theorem afterEvent_buf (s : State) (l : List HostEvent) : (s.afterEvent l).buf = s.buf := rfl
@[simp] theorem afterEvent_response (s : State) (l : List HostEvent) : (s.afterEvent l).response = none := rfl
@[simp] theorem afterEvent_draws (s : State) (l : List HostEvent) : (s.afterEvent l).draws = s.draws := rfl
@[simp] theorem afterEvent_host (s : State) (l : List HostEvent) : (s.afterEvent l).host = l := rfl

@[simp] theorem withFetchWord_buf (s : State) (n w : Nat) : (s.withFetchWord n w).buf = s.buf := rfl
@[simp] theorem withFetchWord_response (s : State) (n w : Nat) : (s.withFetchWord n w).response = s.response := rfl
@[simp] theorem withFetchWord_draws (s : State) (n w : Nat) : (s.withFetchWord n w).draws = s.draws := rfl
@[simp] theorem withFetchWord_host (s : State) (n w : Nat) :
    (s.withFetchWord n w).host = .command (Request.ofWord (w % 2 ^ n)) :: s.host := rfl

@[simp] theorem reset_buf : State.reset.buf = [] := rfl
@[simp] theorem reset_response : State.reset.response = none := rfl
@[simp] theorem reset_draws : State.reset.draws = 0 := rfl
@[simp] theorem reset_host : State.reset.host = [] := rfl

@[simp] theorem raise_eq (f : Failure) (s : State) : raise f s = .next (s.failWith f) := rfl

/-- The step with an event at the front of the host's list. -/
theorem step_of_event {s : State} {ev : HostEvent} {rest : List HostEvent} (h : s.host = ev :: rest) :
    step s = takeEvent ev (s.afterEvent rest) := by
  simp only [step, h]

/-- The step with nothing to do. -/
theorem step_of_idle {s : State} (h : s.host = []) : step s = idle s := by
  simp only [step, h]

end Sys2Proof.Machine
end

