-- ==== Sys2Proof/Laws/Memory.lean ====
section
/-! SUPPORT. The buffer: what one store changes, that every operation keeps the canonical form and the length, and where the
cells of a canonical buffer are (spec 10_state.md R16, 20_memory.md R19, R20, R25, R26). -/

namespace Sys2Proof.Machine

/-! ### One cell -/

@[simp] theorem length_put (m : Memory) (k : Nat) (b : Byte) : (m.put k b).length = m.length := by
  simp [Memory.put]

@[simp] theorem bufLen_put (m : Memory) (k : Nat) (b : Byte) : (m.put k b).bufLen = m.bufLen := length_put m k b

@[simp] theorem map_fst_put (m : Memory) (k : Nat) (b : Byte) : (m.put k b).map Prod.fst = m.map Prod.fst := by
  simp only [Memory.put, List.map_map]
  refine List.map_congr_left fun c _ => ?_
  by_cases h : c.1 = k <;> simp [h]

theorem wf_put {m : Memory} (h : m.wf) (k : Nat) (b : Byte) : (m.put k b).wf := by
  simpa [Memory.wf] using h

/-- Reading after one store: the stored cell has the byte, if it is a cell at all; every other cell is as before. -/
theorem find_put (m : Memory) (k j : Nat) (b : Byte) :
    (m.put k b).find j = if j = k then (m.find k).map (fun _ => b) else m.find j := by
  induction m with
  | nil => simp [Memory.put, Memory.find]
  | cons c cs ih =>
    simp only [Memory.put, List.map_cons, Memory.find] at ih ⊢
    by_cases hck : c.1 = k
    · subst hck
      by_cases hj : j = c.1
      · subst hj; simp
      · simp [hj, Ne.symm hj, ih]
    · by_cases hj : j = k
      · subst hj; simpa [hck] using ih
      · simp only [if_neg hck, ih, if_neg hj]

theorem cellAt_putByte (m : Memory) (a k : Int) (b : Byte) :
    cellAt (putByte m a b) k = if k = a then (cellAt m a).map (fun _ => b) else cellAt m k := by
  unfold putByte cellAt
  by_cases ha : 0 ≤ a
  · by_cases hk : 0 ≤ k
    · simp only [ha, hk, if_true, find_put]
      by_cases h : k = a
      · simp [h]
      · have : k.toNat ≠ a.toNat := by omega
        simp [h, this]
    · have : k ≠ a := by omega
      simp [hk, this]
  · by_cases h : k = a
    · simp [h, ha]
    · simp [h, ha]

@[simp] theorem length_putByte (m : Memory) (a : Int) (b : Byte) : (putByte m a b).length = m.length := by
  unfold putByte; split <;> simp

theorem wf_putByte {m : Memory} (h : m.wf) (a : Int) (b : Byte) : (putByte m a b).wf := by
  unfold putByte; split
  · exact wf_put h _ _
  · exact h

@[simp] theorem map_fst_putByte (m : Memory) (a : Int) (b : Byte) : (putByte m a b).map Prod.fst = m.map Prod.fst := by
  unfold putByte; split <;> simp

/-! ### A canonical buffer -/

theorem find_isSome_iff (m : Memory) (k : Nat) : (m.find k).isSome ↔ k ∈ m.map Prod.fst := by
  induction m with
  | nil => simp [Memory.find]
  | cons c cs ih =>
    by_cases h : c.1 = k
    · simp [Memory.find, h]
    · simp only [Memory.find, if_neg h, ih, List.map_cons, List.mem_cons]
      exact ⟨.inr, fun hk => hk.resolve_left (Ne.symm h)⟩

/-- The cells of a canonical buffer are exactly those at 0, 1, ..., BUF_LEN - 1 (R16, R19). -/
theorem cellAt_isSome_iff {m : Memory} (h : m.wf) (a : Int) : (cellAt m a).isSome ↔ 0 ≤ a ∧ a < (m.bufLen : Int) := by
  unfold cellAt
  by_cases ha : 0 ≤ a
  · rw [if_pos ha, find_isSome_iff, h, List.mem_range, Memory.bufLen]; omega
  · simp [ha]

theorem cellAt_eq_none_iff {m : Memory} (h : m.wf) (a : Int) : cellAt m a = none ↔ ¬ (0 ≤ a ∧ a < (m.bufLen : Int)) := by
  rw [← cellAt_isSome_iff h a]; cases cellAt m a <;> simp

theorem wf_ofBytes (c : List Byte) : (Memory.ofBytes c).wf := by
  simp [Memory.wf, Memory.ofBytes, List.map_fst_zip]

@[simp] theorem bufLen_ofBytes (c : List Byte) : (Memory.ofBytes c).bufLen = c.length := by
  simp [Memory.bufLen, Memory.ofBytes]

/-! ### Byte strings -/

@[simp] theorem length_memRead (a : Int) (n : Nat) (m : Memory) : (memRead a n m).length = n := by simp [memRead]

@[simp] theorem length_memWrite (a : Int) (c : List Byte) (m : Memory) : (memWrite a c m).length = m.length := by
  induction c generalizing a m with
  | nil => rfl
  | cons b bs ih => simp [memWrite, ih]

@[simp] theorem bufLen_memWrite (a : Int) (c : List Byte) (m : Memory) : (memWrite a c m).bufLen = m.bufLen :=
  length_memWrite a c m

theorem wf_memWrite {m : Memory} (h : m.wf) (a : Int) (c : List Byte) : (memWrite a c m).wf := by
  induction c generalizing a m with
  | nil => exact h
  | cons b bs ih => exact ih (wf_putByte h a b) _

@[simp] theorem map_fst_memWrite (a : Int) (c : List Byte) (m : Memory) : (memWrite a c m).map Prod.fst = m.map Prod.fst := by
  induction c generalizing a m with
  | nil => rfl
  | cons b bs ih => simp [memWrite, ih]

@[simp] theorem length_bytesLE (n u : Nat) : (bytesLE n u).length = n := by simp [bytesLE]
@[simp] theorem length_bytesOf (e : Endian) (n u : Nat) : (bytesOf e n u).length = n := by cases e <;> simp [bytesOf]
@[simp] theorem length_drawBytes (k w : Nat) : (drawBytes k w).length = w := by simp [drawBytes]

theorem length_maxPattern {w : Nat} (h : 1 ≤ w) (e : Endian) (sg : Signedness) : (maxPattern w e sg).length = w := by
  cases e <;> cases sg <;> simp [maxPattern, signedMaxBE] <;> omega

/-! ### An abandoned command -/

theorem length_settle {old new : Memory} (h : new.length = old.length) (k : Nat) : (settle k old new).length = old.length := by
  simp [settle, h]

theorem wf_settle {old new : Memory} (hwf : old.wf) (h : new.length = old.length) (k : Nat) : (settle k old new).wf := by
  unfold Memory.wf
  rw [length_settle h, ← hwf]
  unfold settle
  rw [List.map_zipWith]
  apply List.ext_getElem
  · simp [h]
  · intro i h1 h2; simp

/-- A cell of an abandoned command's buffer is the old one or the new one. -/
theorem find_settle {old new : Memory} (h : new.map Prod.fst = old.map Prod.fst) (k j : Nat) :
    (settle k old new).find j = if Config.settles (k + j) then new.find j else old.find j := by
  induction old generalizing new with
  | nil => cases new <;> simp_all [settle, Memory.find]
  | cons c cs ih =>
    cases new with
    | nil => simp at h
    | cons d ds =>
      simp only [List.map_cons, List.cons.injEq] at h
      have := ih h.2
      simp only [settle] at this
      simp only [settle, List.zipWith_cons_cons, Memory.find, h.1, this]
      by_cases hc : c.1 = j
      · subst hc; simp only [if_true]; split <;> rfl
      · simp only [if_neg hc]

/-! ### The codecs keep the length and the canonical form -/

@[simp] theorem bufLen_natWrite (a : Int) (n : Nat) (e : Endian) (x : Int) (m : Memory) :
    (natWrite a n e x m).bufLen = m.bufLen := bufLen_memWrite _ _ _

theorem wf_natWrite {m : Memory} (h : m.wf) (a : Int) (n : Nat) (e : Endian) (x : Int) : (natWrite a n e x m).wf :=
  wf_memWrite h _ _

@[simp] theorem bufLen_encode3 (e : Endian) (o v : Int) (m : Memory) : (encode3 e o v m).bufLen = m.bufLen := by
  simp [encode3]

theorem wf_encode3 {m : Memory} (h : m.wf) (e : Endian) (o v : Int) : (encode3 e o v m).wf :=
  wf_natWrite (wf_natWrite h _ _ _ _) _ _ _ _

@[simp] theorem bufLen_writeHigh (a : Int) (k : Nat) (e : Endian) (x : Int) (m : Memory) :
    (writeHigh a k e x m).bufLen = m.bufLen := by
  unfold writeHigh; split <;> simp

theorem wf_writeHigh {m : Memory} (h : m.wf) (a : Int) (k : Nat) (e : Endian) (x : Int) : (writeHigh a k e x m).wf := by
  unfold writeHigh; split
  · exact wf_encode3 h _ _ _
  · exact wf_natWrite h _ _ _ _

@[simp] theorem bufLen_encodeSplit (w : Nat) (e : Endian) (o v : Int) (m : Memory) :
    (encodeSplit w e o v m).bufLen = m.bufLen := by simp [encodeSplit]

theorem wf_encodeSplit {m : Memory} (h : m.wf) (w : Nat) (e : Endian) (o v : Int) : (encodeSplit w e o v m).wf :=
  wf_natWrite (wf_writeHigh h _ _ _ _) _ _ _ _

@[simp] theorem bufLen_encodeInt (w : Nat) (e : Endian) (sg : Signedness) (o v : Int) (m : Memory) :
    (encodeInt w e sg o v m).bufLen = m.bufLen := by
  unfold encodeInt; split
  · simp
  · split <;> simp

theorem wf_encodeInt {m : Memory} (h : m.wf) (w : Nat) (e : Endian) (sg : Signedness) (o v : Int) :
    (encodeInt w e sg o v m).wf := by
  unfold encodeInt; split
  · exact wf_natWrite h _ _ _ _
  · split
    · exact wf_memWrite h _ _
    · exact wf_encodeSplit h _ _ _ _

end Sys2Proof.Machine
end

