-- ==== Sys2Proof/Laws/Flow.lean ====
section
/-! SUPPORT. For each shared operation, everything it can do, said once: later proofs cite these and do not unfold the
operation (spec 40_dispatch.md R64, R67, R68, R69). -/

namespace Sys2Proof.Machine

/-- What a read can do (R67). -/
theorem readFlow_cases (w : Nat) (e : Endian) (sg : Signedness) (n : Mode) (o : Int) (s : State) :
    (n = .strict ∧ ¬ RegionOK o w s.buf.bufLen ∧ readFlow w e sg n o s = .next (s.failWith .bufferOverrun)) ∨
    ((n = .lenient ∨ RegionOK o w s.buf.bufLen) ∧ TooLarge (decodeInt w e sg o s.buf) ∧
      readFlow w e sg n o s = .next (s.failWith .integerTooLarge)) ∨
    ((n = .lenient ∨ RegionOK o w s.buf.bufLen) ∧ ¬ TooLarge (decodeInt w e sg o s.buf) ∧
      readFlow w e sg n o s = .next (s.answerRead (decodeInt w e sg o s.buf))) := by
  unfold readFlow
  by_cases h1 : n = .strict ∧ ¬ RegionOK o w s.buf.bufLen
  · exact .inl ⟨h1.1, h1.2, if_pos h1⟩
  · have h1' : n = .lenient ∨ RegionOK o w s.buf.bufLen := by
      cases n
      · exact .inr (Classical.not_not.mp fun h => h1 ⟨rfl, h⟩)
      · exact .inl rfl
    rw [if_neg h1]
    by_cases h2 : TooLarge (decodeInt w e sg o s.buf)
    · exact .inr (.inl ⟨h1', h2, if_pos h2⟩)
    · exact .inr (.inr ⟨h1', h2, if_neg h2⟩)

/-- What a write can do (R68, R69). -/
theorem writeFlow_cases (w : Nat) (e : Endian) (sg : Signedness) (n : Mode) (o v : Int) (s : State) :
    (n = .strict ∧ ¬ InRange w sg v ∧ writeFlow w e sg n o v s = .next (s.failWith .outOfRange)) ∨
    (n = .strict ∧ InRange w sg v ∧ ¬ RegionOK o w s.buf.bufLen ∧
      writeFlow w e sg n o v s = .next (s.failWith .bufferOverrun)) ∨
    ((n = .strict ∧ InRange w sg v ∧ RegionOK o w s.buf.bufLen ∨
        n = .lenient ∧ (InRange w sg v ∨ Saturates w sg v)) ∧
      writeFlow w e sg n o v s = .next (s.answerWrite (encodeInt w e sg o v s.buf))) ∨
    (n = .lenient ∧ ¬ InRange w sg v ∧ ¬ Saturates w sg v ∧ writeFlow w e sg n o v s = lenientOutOfRange w o s) := by
  cases n
  · unfold writeFlow writeStrict; dsimp only
    by_cases h1 : InRange w sg v
    · rw [if_neg (not_not.mpr h1)]
      by_cases h2 : RegionOK o w s.buf.bufLen
      · exact .inr (.inr (.inl ⟨.inl ⟨rfl, h1, h2⟩, if_neg (not_not.mpr h2)⟩))
      · exact .inr (.inl ⟨rfl, h1, h2, if_pos h2⟩)
    · exact .inl ⟨rfl, h1, if_pos h1⟩
  · unfold writeFlow writeLenient; dsimp only
    by_cases h1 : InRange w sg v ∨ Saturates w sg v
    · exact .inr (.inr (.inl ⟨.inr ⟨rfl, h1⟩, if_pos h1⟩))
    · exact .inr (.inr (.inr ⟨rfl, fun h => h1 (.inl h), fun h => h1 (.inr h), if_neg h1⟩))

/-- What a read with the width as an operand can do (R63, R64). -/
theorem genericRead_cases (w : Nat) (e : Endian) (sg : Signedness) (n : Mode) (o : Int) (s : State) :
    (¬ Supported w ∧ genericRead w e sg n o s = .next (s.failWith .unsupportedWidth)) ∨
    (Supported w ∧ genericRead w e sg n o s = readFlow w e sg n o s) := by
  unfold genericRead
  by_cases h : Supported w
  · exact .inr ⟨h, if_pos h⟩
  · exact .inl ⟨h, if_neg h⟩

/-- What a write with the width as an operand can do (R63, R64). -/
theorem genericWrite_cases (w : Nat) (e : Endian) (sg : Signedness) (n : Mode) (o v : Int) (s : State) :
    (¬ Supported w ∧ genericWrite w e sg n o v s = .next (s.failWith .unsupportedWidth)) ∨
    (Supported w ∧ genericWrite w e sg n o v s = writeFlow w e sg n o v s) := by
  unfold genericWrite
  by_cases h : Supported w
  · exact .inr ⟨h, if_pos h⟩
  · exact .inl ⟨h, if_neg h⟩

/-- At a supported width the generic forms are the flows themselves (R71). -/
theorem genericRead_supported {w : Nat} (h : Supported w) (e : Endian) (sg : Signedness) (n : Mode) (o : Int) (s : State) :
    genericRead w e sg n o s = readFlow w e sg n o s := if_pos h

theorem genericWrite_supported {w : Nat} (h : Supported w) (e : Endian) (sg : Signedness) (n : Mode) (o v : Int)
    (s : State) : genericWrite w e sg n o v s = writeFlow w e sg n o v s := if_pos h

/-- What a lenient write out of range does (R69). -/
theorem lenientOutOfRange_eq (w : Nat) (o : Int) (s : State) :
    lenientOutOfRange w o s =
      .next (({ s with draws := s.draws + w }).answerWrite (memWrite o (drawBytes s.draws w) s.buf)) := rfl

/-- What the host's presenting a buffer can do. -/
theorem hostPresent_cases (c : List Byte) (s : State) :
    (c.length ≤ Config.maxBufLen ∧ hostPresent c s = .next { s with buf := Memory.ofBytes c }) ∨
    (Config.maxBufLen < c.length ∧ hostPresent c s = .refused .bufferTooLong) := by
  unfold hostPresent
  by_cases h : c.length ≤ Config.maxBufLen
  · exact .inl ⟨h, if_pos h⟩
  · exact .inr ⟨Nat.lt_of_not_le h, if_neg h⟩

/-- What the host's store can do. -/
theorem hostStore_cases (k : Nat) (b : Byte) (s : State) :
    (k < s.buf.bufLen ∧ hostStore k b s = .next { s with buf := s.buf.put k b }) ∨
    (s.buf.bufLen ≤ k ∧ hostStore k b s = .refused .hostStoreOutsideBuffer) := by
  unfold hostStore
  by_cases h : k < s.buf.bufLen
  · exact .inl ⟨h, if_pos h⟩
  · exact .inr ⟨Nat.le_of_not_lt h, if_neg h⟩

/-- What abandoning a command does, whose outcome would have been a next state (R182). -/
theorem abandonCommand_next (t s : State) :
    abandonCommand (.next t) s =
      .next { s with buf := settle t.draws s.buf t.buf, draws := t.draws + s.buf.bufLen, response := none } := rfl

/-- Every instruction is the flow of its direction with its own fields, behind the width test. The one case split over the
70 instructions; a statement about all of them cites this. -/
theorem exec_eq_generic (i : Instr) (s : State) :
    exec i s = match i.fields.dir with
      | .read => genericRead i.fields.width i.fields.endian i.fields.sgn i.fields.mode i.fields.offset s
      | .write => genericWrite i.fields.width i.fields.endian i.fields.sgn i.fields.mode i.fields.offset i.fields.value s := by
  cases i <;> first
    | exact (genericRead_supported (by decide) _ _ _ _ _).symm
    | exact (genericWrite_supported (by decide) _ _ _ _ _ _).symm
    | rfl

end Sys2Proof.Machine
end

