-- ==== Sys2Proof/Laws/PerInstr.lean ====
section
/-! SUPPORT. A family of statements made per instruction: the command word the encoder writes is the row of the opcode table
(spec 30_encoding.md R57), and its LEN bit is the mode operand (R48). -/

namespace Sys2Proof.Laws

/-- CMD of the encoded instruction matches the instruction's own row of opcode_table.json. -/
def EncodingMatchesTable.Statement (i : Instr) : Prop :=
  (encode i).cmd.toNat &&& i.tableRow.2 = i.tableRow.1 ∧ (encode i).mode = i.fields.mode

theorem EncodingMatchesTable.read (o : Int) (w : Nat) (e : Endian) (sg : Signedness) (n : Mode) :
    EncodingMatchesTable.Statement (.read o w e sg n) :=
  packCmd_dir .read sg e n w

theorem EncodingMatchesTable.write (o : Int) (w : Nat) (v : Int) (e : Endian) (sg : Signedness) (n : Mode) :
    EncodingMatchesTable.Statement (.write o w v e sg n) :=
  packCmd_dir .write sg e n w

theorem EncodingMatchesTable.readUIntBE (w : Nat) (o : Int) (n : Mode) :
    EncodingMatchesTable.Statement (.readUIntBE w o n) :=
  packCmd_generic .read .unsigned .be n w

theorem EncodingMatchesTable.readUIntLE (w : Nat) (o : Int) (n : Mode) :
    EncodingMatchesTable.Statement (.readUIntLE w o n) :=
  packCmd_generic .read .unsigned .le n w

theorem EncodingMatchesTable.readIntBE (w : Nat) (o : Int) (n : Mode) :
    EncodingMatchesTable.Statement (.readIntBE w o n) :=
  packCmd_generic .read .signed .be n w

theorem EncodingMatchesTable.readIntLE (w : Nat) (o : Int) (n : Mode) :
    EncodingMatchesTable.Statement (.readIntLE w o n) :=
  packCmd_generic .read .signed .le n w

theorem EncodingMatchesTable.writeUIntBE (v : Int) (w : Nat) (o : Int) (n : Mode) :
    EncodingMatchesTable.Statement (.writeUIntBE v w o n) :=
  packCmd_generic .write .unsigned .be n w

theorem EncodingMatchesTable.writeUIntLE (v : Int) (w : Nat) (o : Int) (n : Mode) :
    EncodingMatchesTable.Statement (.writeUIntLE v w o n) :=
  packCmd_generic .write .unsigned .le n w

theorem EncodingMatchesTable.writeIntBE (v : Int) (w : Nat) (o : Int) (n : Mode) :
    EncodingMatchesTable.Statement (.writeIntBE v w o n) :=
  packCmd_generic .write .signed .be n w

theorem EncodingMatchesTable.writeIntLE (v : Int) (w : Nat) (o : Int) (n : Mode) :
    EncodingMatchesTable.Statement (.writeIntLE v w o n) :=
  packCmd_generic .write .signed .le n w

theorem EncodingMatchesTable.readUInt8 (o : Int) (n : Mode) :
    EncodingMatchesTable.Statement (.readUInt8 o n) :=
  packCmd_row .read .unsigned .be n 1 0xCF 0x01 (by decide)

theorem EncodingMatchesTable.readInt8 (o : Int) (n : Mode) :
    EncodingMatchesTable.Statement (.readInt8 o n) :=
  packCmd_row .read .signed .be n 1 0xCF 0x41 (by decide)

theorem EncodingMatchesTable.writeUInt8 (v : Int) (o : Int) (n : Mode) :
    EncodingMatchesTable.Statement (.writeUInt8 v o n) :=
  packCmd_row .write .unsigned .be n 1 0xCF 0x81 (by decide)

theorem EncodingMatchesTable.writeInt8 (v : Int) (o : Int) (n : Mode) :
    EncodingMatchesTable.Statement (.writeInt8 v o n) :=
  packCmd_row .write .signed .be n 1 0xCF 0xC1 (by decide)

theorem EncodingMatchesTable.readUInt16BE (o : Int) (n : Mode) :
    EncodingMatchesTable.Statement (.readUInt16BE o n) :=
  packCmd_row .read .unsigned .be n 2 0xEF 0x02 (by decide)

theorem EncodingMatchesTable.readUInt16LE (o : Int) (n : Mode) :
    EncodingMatchesTable.Statement (.readUInt16LE o n) :=
  packCmd_row .read .unsigned .le n 2 0xEF 0x22 (by decide)

theorem EncodingMatchesTable.readInt16BE (o : Int) (n : Mode) :
    EncodingMatchesTable.Statement (.readInt16BE o n) :=
  packCmd_row .read .signed .be n 2 0xEF 0x42 (by decide)

theorem EncodingMatchesTable.readInt16LE (o : Int) (n : Mode) :
    EncodingMatchesTable.Statement (.readInt16LE o n) :=
  packCmd_row .read .signed .le n 2 0xEF 0x62 (by decide)

theorem EncodingMatchesTable.writeUInt16BE (v : Int) (o : Int) (n : Mode) :
    EncodingMatchesTable.Statement (.writeUInt16BE v o n) :=
  packCmd_row .write .unsigned .be n 2 0xEF 0x82 (by decide)

theorem EncodingMatchesTable.writeUInt16LE (v : Int) (o : Int) (n : Mode) :
    EncodingMatchesTable.Statement (.writeUInt16LE v o n) :=
  packCmd_row .write .unsigned .le n 2 0xEF 0xA2 (by decide)

theorem EncodingMatchesTable.writeInt16BE (v : Int) (o : Int) (n : Mode) :
    EncodingMatchesTable.Statement (.writeInt16BE v o n) :=
  packCmd_row .write .signed .be n 2 0xEF 0xC2 (by decide)

theorem EncodingMatchesTable.writeInt16LE (v : Int) (o : Int) (n : Mode) :
    EncodingMatchesTable.Statement (.writeInt16LE v o n) :=
  packCmd_row .write .signed .le n 2 0xEF 0xE2 (by decide)

theorem EncodingMatchesTable.readUInt24BE (o : Int) (n : Mode) :
    EncodingMatchesTable.Statement (.readUInt24BE o n) :=
  packCmd_row .read .unsigned .be n 3 0xEF 0x03 (by decide)

theorem EncodingMatchesTable.readUInt24LE (o : Int) (n : Mode) :
    EncodingMatchesTable.Statement (.readUInt24LE o n) :=
  packCmd_row .read .unsigned .le n 3 0xEF 0x23 (by decide)

theorem EncodingMatchesTable.readInt24BE (o : Int) (n : Mode) :
    EncodingMatchesTable.Statement (.readInt24BE o n) :=
  packCmd_row .read .signed .be n 3 0xEF 0x43 (by decide)

theorem EncodingMatchesTable.readInt24LE (o : Int) (n : Mode) :
    EncodingMatchesTable.Statement (.readInt24LE o n) :=
  packCmd_row .read .signed .le n 3 0xEF 0x63 (by decide)

theorem EncodingMatchesTable.writeUInt24BE (v : Int) (o : Int) (n : Mode) :
    EncodingMatchesTable.Statement (.writeUInt24BE v o n) :=
  packCmd_row .write .unsigned .be n 3 0xEF 0x83 (by decide)

theorem EncodingMatchesTable.writeUInt24LE (v : Int) (o : Int) (n : Mode) :
    EncodingMatchesTable.Statement (.writeUInt24LE v o n) :=
  packCmd_row .write .unsigned .le n 3 0xEF 0xA3 (by decide)

theorem EncodingMatchesTable.writeInt24BE (v : Int) (o : Int) (n : Mode) :
    EncodingMatchesTable.Statement (.writeInt24BE v o n) :=
  packCmd_row .write .signed .be n 3 0xEF 0xC3 (by decide)

theorem EncodingMatchesTable.writeInt24LE (v : Int) (o : Int) (n : Mode) :
    EncodingMatchesTable.Statement (.writeInt24LE v o n) :=
  packCmd_row .write .signed .le n 3 0xEF 0xE3 (by decide)

theorem EncodingMatchesTable.readUInt32BE (o : Int) (n : Mode) :
    EncodingMatchesTable.Statement (.readUInt32BE o n) :=
  packCmd_row .read .unsigned .be n 4 0xEF 0x04 (by decide)

theorem EncodingMatchesTable.readUInt32LE (o : Int) (n : Mode) :
    EncodingMatchesTable.Statement (.readUInt32LE o n) :=
  packCmd_row .read .unsigned .le n 4 0xEF 0x24 (by decide)

theorem EncodingMatchesTable.readInt32BE (o : Int) (n : Mode) :
    EncodingMatchesTable.Statement (.readInt32BE o n) :=
  packCmd_row .read .signed .be n 4 0xEF 0x44 (by decide)

theorem EncodingMatchesTable.readInt32LE (o : Int) (n : Mode) :
    EncodingMatchesTable.Statement (.readInt32LE o n) :=
  packCmd_row .read .signed .le n 4 0xEF 0x64 (by decide)

theorem EncodingMatchesTable.writeUInt32BE (v : Int) (o : Int) (n : Mode) :
    EncodingMatchesTable.Statement (.writeUInt32BE v o n) :=
  packCmd_row .write .unsigned .be n 4 0xEF 0x84 (by decide)

theorem EncodingMatchesTable.writeUInt32LE (v : Int) (o : Int) (n : Mode) :
    EncodingMatchesTable.Statement (.writeUInt32LE v o n) :=
  packCmd_row .write .unsigned .le n 4 0xEF 0xA4 (by decide)

theorem EncodingMatchesTable.writeInt32BE (v : Int) (o : Int) (n : Mode) :
    EncodingMatchesTable.Statement (.writeInt32BE v o n) :=
  packCmd_row .write .signed .be n 4 0xEF 0xC4 (by decide)

theorem EncodingMatchesTable.writeInt32LE (v : Int) (o : Int) (n : Mode) :
    EncodingMatchesTable.Statement (.writeInt32LE v o n) :=
  packCmd_row .write .signed .le n 4 0xEF 0xE4 (by decide)

theorem EncodingMatchesTable.readUInt40BE (o : Int) (n : Mode) :
    EncodingMatchesTable.Statement (.readUInt40BE o n) :=
  packCmd_row .read .unsigned .be n 5 0xEF 0x05 (by decide)

theorem EncodingMatchesTable.readUInt40LE (o : Int) (n : Mode) :
    EncodingMatchesTable.Statement (.readUInt40LE o n) :=
  packCmd_row .read .unsigned .le n 5 0xEF 0x25 (by decide)

theorem EncodingMatchesTable.readInt40BE (o : Int) (n : Mode) :
    EncodingMatchesTable.Statement (.readInt40BE o n) :=
  packCmd_row .read .signed .be n 5 0xEF 0x45 (by decide)

theorem EncodingMatchesTable.readInt40LE (o : Int) (n : Mode) :
    EncodingMatchesTable.Statement (.readInt40LE o n) :=
  packCmd_row .read .signed .le n 5 0xEF 0x65 (by decide)

theorem EncodingMatchesTable.writeUInt40BE (v : Int) (o : Int) (n : Mode) :
    EncodingMatchesTable.Statement (.writeUInt40BE v o n) :=
  packCmd_row .write .unsigned .be n 5 0xEF 0x85 (by decide)

theorem EncodingMatchesTable.writeUInt40LE (v : Int) (o : Int) (n : Mode) :
    EncodingMatchesTable.Statement (.writeUInt40LE v o n) :=
  packCmd_row .write .unsigned .le n 5 0xEF 0xA5 (by decide)

theorem EncodingMatchesTable.writeInt40BE (v : Int) (o : Int) (n : Mode) :
    EncodingMatchesTable.Statement (.writeInt40BE v o n) :=
  packCmd_row .write .signed .be n 5 0xEF 0xC5 (by decide)

theorem EncodingMatchesTable.writeInt40LE (v : Int) (o : Int) (n : Mode) :
    EncodingMatchesTable.Statement (.writeInt40LE v o n) :=
  packCmd_row .write .signed .le n 5 0xEF 0xE5 (by decide)

theorem EncodingMatchesTable.readUInt48BE (o : Int) (n : Mode) :
    EncodingMatchesTable.Statement (.readUInt48BE o n) :=
  packCmd_row .read .unsigned .be n 6 0xEF 0x06 (by decide)

theorem EncodingMatchesTable.readUInt48LE (o : Int) (n : Mode) :
    EncodingMatchesTable.Statement (.readUInt48LE o n) :=
  packCmd_row .read .unsigned .le n 6 0xEF 0x26 (by decide)

theorem EncodingMatchesTable.readInt48BE (o : Int) (n : Mode) :
    EncodingMatchesTable.Statement (.readInt48BE o n) :=
  packCmd_row .read .signed .be n 6 0xEF 0x46 (by decide)

theorem EncodingMatchesTable.readInt48LE (o : Int) (n : Mode) :
    EncodingMatchesTable.Statement (.readInt48LE o n) :=
  packCmd_row .read .signed .le n 6 0xEF 0x66 (by decide)

theorem EncodingMatchesTable.writeUInt48BE (v : Int) (o : Int) (n : Mode) :
    EncodingMatchesTable.Statement (.writeUInt48BE v o n) :=
  packCmd_row .write .unsigned .be n 6 0xEF 0x86 (by decide)

theorem EncodingMatchesTable.writeUInt48LE (v : Int) (o : Int) (n : Mode) :
    EncodingMatchesTable.Statement (.writeUInt48LE v o n) :=
  packCmd_row .write .unsigned .le n 6 0xEF 0xA6 (by decide)

theorem EncodingMatchesTable.writeInt48BE (v : Int) (o : Int) (n : Mode) :
    EncodingMatchesTable.Statement (.writeInt48BE v o n) :=
  packCmd_row .write .signed .be n 6 0xEF 0xC6 (by decide)

theorem EncodingMatchesTable.writeInt48LE (v : Int) (o : Int) (n : Mode) :
    EncodingMatchesTable.Statement (.writeInt48LE v o n) :=
  packCmd_row .write .signed .le n 6 0xEF 0xE6 (by decide)

theorem EncodingMatchesTable.readUInt56BE (o : Int) (n : Mode) :
    EncodingMatchesTable.Statement (.readUInt56BE o n) :=
  packCmd_row .read .unsigned .be n 7 0xEF 0x07 (by decide)

theorem EncodingMatchesTable.readUInt56LE (o : Int) (n : Mode) :
    EncodingMatchesTable.Statement (.readUInt56LE o n) :=
  packCmd_row .read .unsigned .le n 7 0xEF 0x27 (by decide)

theorem EncodingMatchesTable.readInt56BE (o : Int) (n : Mode) :
    EncodingMatchesTable.Statement (.readInt56BE o n) :=
  packCmd_row .read .signed .be n 7 0xEF 0x47 (by decide)

theorem EncodingMatchesTable.readInt56LE (o : Int) (n : Mode) :
    EncodingMatchesTable.Statement (.readInt56LE o n) :=
  packCmd_row .read .signed .le n 7 0xEF 0x67 (by decide)

theorem EncodingMatchesTable.writeUInt56BE (v : Int) (o : Int) (n : Mode) :
    EncodingMatchesTable.Statement (.writeUInt56BE v o n) :=
  packCmd_row .write .unsigned .be n 7 0xEF 0x87 (by decide)

theorem EncodingMatchesTable.writeUInt56LE (v : Int) (o : Int) (n : Mode) :
    EncodingMatchesTable.Statement (.writeUInt56LE v o n) :=
  packCmd_row .write .unsigned .le n 7 0xEF 0xA7 (by decide)

theorem EncodingMatchesTable.writeInt56BE (v : Int) (o : Int) (n : Mode) :
    EncodingMatchesTable.Statement (.writeInt56BE v o n) :=
  packCmd_row .write .signed .be n 7 0xEF 0xC7 (by decide)

theorem EncodingMatchesTable.writeInt56LE (v : Int) (o : Int) (n : Mode) :
    EncodingMatchesTable.Statement (.writeInt56LE v o n) :=
  packCmd_row .write .signed .le n 7 0xEF 0xE7 (by decide)

theorem EncodingMatchesTable.readUInt64BE (o : Int) (n : Mode) :
    EncodingMatchesTable.Statement (.readUInt64BE o n) :=
  packCmd_row .read .unsigned .be n 8 0xEF 0x08 (by decide)

theorem EncodingMatchesTable.readUInt64LE (o : Int) (n : Mode) :
    EncodingMatchesTable.Statement (.readUInt64LE o n) :=
  packCmd_row .read .unsigned .le n 8 0xEF 0x28 (by decide)

theorem EncodingMatchesTable.readInt64BE (o : Int) (n : Mode) :
    EncodingMatchesTable.Statement (.readInt64BE o n) :=
  packCmd_row .read .signed .be n 8 0xEF 0x48 (by decide)

theorem EncodingMatchesTable.readInt64LE (o : Int) (n : Mode) :
    EncodingMatchesTable.Statement (.readInt64LE o n) :=
  packCmd_row .read .signed .le n 8 0xEF 0x68 (by decide)

theorem EncodingMatchesTable.writeUInt64BE (v : Int) (o : Int) (n : Mode) :
    EncodingMatchesTable.Statement (.writeUInt64BE v o n) :=
  packCmd_row .write .unsigned .be n 8 0xEF 0x88 (by decide)

theorem EncodingMatchesTable.writeUInt64LE (v : Int) (o : Int) (n : Mode) :
    EncodingMatchesTable.Statement (.writeUInt64LE v o n) :=
  packCmd_row .write .unsigned .le n 8 0xEF 0xA8 (by decide)

theorem EncodingMatchesTable.writeInt64BE (v : Int) (o : Int) (n : Mode) :
    EncodingMatchesTable.Statement (.writeInt64BE v o n) :=
  packCmd_row .write .signed .be n 8 0xEF 0xC8 (by decide)

theorem EncodingMatchesTable.writeInt64LE (v : Int) (o : Int) (n : Mode) :
    EncodingMatchesTable.Statement (.writeInt64LE v o n) :=
  packCmd_row .write .signed .le n 8 0xEF 0xE8 (by decide)

end Sys2Proof.Laws
end

