-- ==== Sys2Proof/Tests/Slice0.lean ====
section
/-! SUPPORT. The model's own tests: every expected value stands in spec/ (the examples and corner cases of the instruction
rules in 40 to 47, and 95_test_vectors.md), and every command word is written out from the opcode map (30_encoding.md R57). At
the end, for each obligation with hypotheses, a witness that they can be met together. -/

namespace Sys2Proof.Machine

/-! ### Helpers -/

/-- The next state of an outcome, if it is one. -/
def answer : Result → Option State
  | .next t => some t
  | .fault _ => none
  | .refused _ => none

theorem next_of_answer {r : Result} (d : State) (h : (answer r).isSome = true) : r = .next ((answer r).getD d) := by
  cases r with
  | next s => rfl
  | fault _ => cases h
  | refused _ => cases h

/-- What a reader sees after one step on the command word, offset and value, from the buffer b: STATUS, RVAL as an integer, and
the cells in ascending index. -/
def view (s : Option State) : Option (Status × Option Int × List Byte) :=
  match s with
  | none => none
  | some t =>
    match t.response with
    | none => none
    | some r => some (r.status, r.value, t.buf.map Prod.snd)

/-- One step with the request issued as one number, through the host's own way of issuing it. -/
def ask (cmd : BitVec 8) (o v : Int) (b : List Byte) : Option (Status × Option Int × List Byte) :=
  view (answer (step ((State.withBytes b).withFetchWord 112
    (Request.toWord { cmd := cmd, offset := BitVec.ofInt 32 o, wval := BitVec.ofInt 72 v }))))

/-- One instruction on the buffer b, without decoding. -/
def run (i : Instr) (b : List Byte) : Option (Status × Option Int × List Byte) :=
  view (answer (exec i (State.withBytes b)))

/-! ### Well-formedness: each check refuses an ill-formed term -/

theorem test_wf_offset_above : (Instr.readUInt8 2147483648 .strict).wellFormed = false := by decide
theorem test_wf_offset_below : (Instr.writeInt24LE 0 (-2147483649) .strict).wellFormed = false := by decide
theorem test_wf_value_above : (Instr.writeUInt64BE 2361183241434822606848 0 .strict).wellFormed = false := by decide
theorem test_wf_value_below : (Instr.writeInt8 (-2361183241434822606849) 0 .lenient).wellFormed = false := by decide
theorem test_wf_width_generic : (Instr.readIntLE 16 0 .strict).wellFormed = false := by decide
theorem test_wf_width_full : (Instr.write 0 16 0 .be .signed .strict).wellFormed = false := by decide
theorem test_wf_accepts : (Instr.write 2147483647 15 2361183241434822606847 .be .signed .strict).wellFormed = true := by decide

/-! ### Decoding: every row of the opcode map, its words written out, strict then lenient (R57) -/

theorem test_decode_width1 :
    [0b00000001, 0b00010001, 0b01000001, 0b01010001, 0b10000001, 0b10010001, 0b11000001, 0b11010001].map (decodeTableWord 8) =
     [.readUInt8 0 .strict, .readUInt8 0 .lenient,
      .readInt8 0 .strict, .readInt8 0 .lenient,
      .writeUInt8 0 0 .strict, .writeUInt8 0 0 .lenient,
      .writeInt8 0 0 .strict, .writeInt8 0 0 .lenient].map some := by decide

theorem test_decode_width2 :
    [0b00000010, 0b00010010, 0b00100010, 0b00110010, 0b01000010, 0b01010010, 0b01100010, 0b01110010,
     0b10000010, 0b10010010, 0b10100010, 0b10110010, 0b11000010, 0b11010010, 0b11100010, 0b11110010].map (decodeTableWord 8) =
     [.readUInt16BE 0 .strict, .readUInt16BE 0 .lenient,
      .readUInt16LE 0 .strict, .readUInt16LE 0 .lenient,
      .readInt16BE 0 .strict, .readInt16BE 0 .lenient,
      .readInt16LE 0 .strict, .readInt16LE 0 .lenient,
      .writeUInt16BE 0 0 .strict, .writeUInt16BE 0 0 .lenient,
      .writeUInt16LE 0 0 .strict, .writeUInt16LE 0 0 .lenient,
      .writeInt16BE 0 0 .strict, .writeInt16BE 0 0 .lenient,
      .writeInt16LE 0 0 .strict, .writeInt16LE 0 0 .lenient].map some := by decide

theorem test_decode_width3 :
    [0b00000011, 0b00010011, 0b00100011, 0b00110011, 0b01000011, 0b01010011, 0b01100011, 0b01110011,
     0b10000011, 0b10010011, 0b10100011, 0b10110011, 0b11000011, 0b11010011, 0b11100011, 0b11110011].map (decodeTableWord 8) =
     [.readUInt24BE 0 .strict, .readUInt24BE 0 .lenient,
      .readUInt24LE 0 .strict, .readUInt24LE 0 .lenient,
      .readInt24BE 0 .strict, .readInt24BE 0 .lenient,
      .readInt24LE 0 .strict, .readInt24LE 0 .lenient,
      .writeUInt24BE 0 0 .strict, .writeUInt24BE 0 0 .lenient,
      .writeUInt24LE 0 0 .strict, .writeUInt24LE 0 0 .lenient,
      .writeInt24BE 0 0 .strict, .writeInt24BE 0 0 .lenient,
      .writeInt24LE 0 0 .strict, .writeInt24LE 0 0 .lenient].map some := by decide

theorem test_decode_width4 :
    [0b00000100, 0b00010100, 0b00100100, 0b00110100, 0b01000100, 0b01010100, 0b01100100, 0b01110100,
     0b10000100, 0b10010100, 0b10100100, 0b10110100, 0b11000100, 0b11010100, 0b11100100, 0b11110100].map (decodeTableWord 8) =
     [.readUInt32BE 0 .strict, .readUInt32BE 0 .lenient,
      .readUInt32LE 0 .strict, .readUInt32LE 0 .lenient,
      .readInt32BE 0 .strict, .readInt32BE 0 .lenient,
      .readInt32LE 0 .strict, .readInt32LE 0 .lenient,
      .writeUInt32BE 0 0 .strict, .writeUInt32BE 0 0 .lenient,
      .writeUInt32LE 0 0 .strict, .writeUInt32LE 0 0 .lenient,
      .writeInt32BE 0 0 .strict, .writeInt32BE 0 0 .lenient,
      .writeInt32LE 0 0 .strict, .writeInt32LE 0 0 .lenient].map some := by decide

theorem test_decode_width5 :
    [0b00000101, 0b00010101, 0b00100101, 0b00110101, 0b01000101, 0b01010101, 0b01100101, 0b01110101,
     0b10000101, 0b10010101, 0b10100101, 0b10110101, 0b11000101, 0b11010101, 0b11100101, 0b11110101].map (decodeTableWord 8) =
     [.readUInt40BE 0 .strict, .readUInt40BE 0 .lenient,
      .readUInt40LE 0 .strict, .readUInt40LE 0 .lenient,
      .readInt40BE 0 .strict, .readInt40BE 0 .lenient,
      .readInt40LE 0 .strict, .readInt40LE 0 .lenient,
      .writeUInt40BE 0 0 .strict, .writeUInt40BE 0 0 .lenient,
      .writeUInt40LE 0 0 .strict, .writeUInt40LE 0 0 .lenient,
      .writeInt40BE 0 0 .strict, .writeInt40BE 0 0 .lenient,
      .writeInt40LE 0 0 .strict, .writeInt40LE 0 0 .lenient].map some := by decide

theorem test_decode_width6 :
    [0b00000110, 0b00010110, 0b00100110, 0b00110110, 0b01000110, 0b01010110, 0b01100110, 0b01110110,
     0b10000110, 0b10010110, 0b10100110, 0b10110110, 0b11000110, 0b11010110, 0b11100110, 0b11110110].map (decodeTableWord 8) =
     [.readUInt48BE 0 .strict, .readUInt48BE 0 .lenient,
      .readUInt48LE 0 .strict, .readUInt48LE 0 .lenient,
      .readInt48BE 0 .strict, .readInt48BE 0 .lenient,
      .readInt48LE 0 .strict, .readInt48LE 0 .lenient,
      .writeUInt48BE 0 0 .strict, .writeUInt48BE 0 0 .lenient,
      .writeUInt48LE 0 0 .strict, .writeUInt48LE 0 0 .lenient,
      .writeInt48BE 0 0 .strict, .writeInt48BE 0 0 .lenient,
      .writeInt48LE 0 0 .strict, .writeInt48LE 0 0 .lenient].map some := by decide

theorem test_decode_width7 :
    [0b00000111, 0b00010111, 0b00100111, 0b00110111, 0b01000111, 0b01010111, 0b01100111, 0b01110111,
     0b10000111, 0b10010111, 0b10100111, 0b10110111, 0b11000111, 0b11010111, 0b11100111, 0b11110111].map (decodeTableWord 8) =
     [.readUInt56BE 0 .strict, .readUInt56BE 0 .lenient,
      .readUInt56LE 0 .strict, .readUInt56LE 0 .lenient,
      .readInt56BE 0 .strict, .readInt56BE 0 .lenient,
      .readInt56LE 0 .strict, .readInt56LE 0 .lenient,
      .writeUInt56BE 0 0 .strict, .writeUInt56BE 0 0 .lenient,
      .writeUInt56LE 0 0 .strict, .writeUInt56LE 0 0 .lenient,
      .writeInt56BE 0 0 .strict, .writeInt56BE 0 0 .lenient,
      .writeInt56LE 0 0 .strict, .writeInt56LE 0 0 .lenient].map some := by decide

theorem test_decode_width8 :
    [0b00001000, 0b00011000, 0b00101000, 0b00111000, 0b01001000, 0b01011000, 0b01101000, 0b01111000,
     0b10001000, 0b10011000, 0b10101000, 0b10111000, 0b11001000, 0b11011000, 0b11101000, 0b11111000].map (decodeTableWord 8) =
     [.readUInt64BE 0 .strict, .readUInt64BE 0 .lenient,
      .readUInt64LE 0 .strict, .readUInt64LE 0 .lenient,
      .readInt64BE 0 .strict, .readInt64BE 0 .lenient,
      .readInt64LE 0 .strict, .readInt64LE 0 .lenient,
      .writeUInt64BE 0 0 .strict, .writeUInt64BE 0 0 .lenient,
      .writeUInt64LE 0 0 .strict, .writeUInt64LE 0 0 .lenient,
      .writeInt64BE 0 0 .strict, .writeInt64BE 0 0 .lenient,
      .writeInt64LE 0 0 .strict, .writeInt64LE 0 0 .lenient].map some := by decide

/-- At width 1 the END bit is ignored (R50, R57: mask 0xCF). -/
theorem test_decode_width1_end_ignored :
    [0b00100001, 0b01110001, 0b10100001, 0b11110001].map (decodeTableWord 8) =
     [.readUInt8 0 .strict, .readInt8 0 .lenient, .writeUInt8 0 0 .strict, .writeInt8 0 0 .lenient].map some := by decide

/-- The generic rows are the most specific ones when WIDTH is 0 or 9 to 15 (R58). -/
theorem test_decode_generic :
    [0b00000000, 0b00111001, 0b01001010, 0b01111011, 0b10001100, 0b10111101, 0b11001110, 0b11111111].map
        (decodeTableWord 8) =
     [.readUIntBE 0 0 .strict, .readUIntLE 9 0 .lenient, .readIntBE 10 0 .strict, .readIntLE 11 0 .lenient,
      .writeUIntBE 0 12 0 .strict, .writeUIntLE 0 13 0 .lenient, .writeIntBE 0 14 0 .strict,
      .writeIntLE 0 15 0 .lenient].map some := by decide

/-- The fully generic forms share their words with the others (R58, R62): `read` of width 7 and of width 9, `write` of width 3. -/
theorem test_encode_full :
    (encode (.read 0 7 .be .unsigned .strict)).cmd = 0x07#8 ∧ (encode (.read (-5) 9 .le .signed .lenient)).cmd = 0x79#8 ∧
    (encode (.write 0 3 66051 .be .unsigned .strict)).cmd = 0x83#8 := by decide

/-- Too few and too many bits are rejected by name (R43, R60). -/
theorem test_decode_rejects :
    decodeTableWord 7 1 = none ∧ decodeTableWord 113 1 = none ∧ decodeTableWord 112 1 = some (.readUInt8 0 .strict) := by
  decide

/-- OFFSET and WVAL in the bits above CMD are two's complement (R51, R52; assumption 2). -/
theorem test_decode_operands :
    decodeTableWord 112 0xFFFFFFFFFFFFFFFFFEFFFFFFFDF5 = some (.writeInt40LE (-2) (-3) .lenient) := by decide

/-- A lenient write out of range (R69, the corner case of R97: `11 xx xx 11`): OK, and the cells beside the region keep their
bytes; the two cells of the region hold free bytes, of which nothing is said. -/
theorem test_lenient_out_of_range :
    ((answer (exec (.writeUInt16BE 65536 1 .lenient) (State.withBytes [0x11, 0x11, 0x11, 0x11]))).map fun t =>
      (t.response, cellAt t.buf 0, cellAt t.buf 3, t.buf.map Prod.fst, t.draws)) =
    some (some ⟨.ok, none⟩, some 0x11, some 0x11, [0, 1, 2, 3], 2) := by decide

/-- An abandoned write (R182) gives no response and leaves the cells beside its region as they were. -/
theorem test_abandoned_write :
    ((answer (step { State.withBytes [0x11, 0x11] with host := [.abandon ⟨0x81, 1, 5⟩] })).map fun t =>
      (t.response, t.buf.map Prod.fst, t.host)) = some (none, [0, 1], []) := by decide

/-! ### The generic instructions (examples of R73 to R82, and 95_test_vectors.md) -/

theorem test_read_width9 : run (.read 0 9 .be .unsigned .strict) [0x01, 0x02, 0x03, 0x04] =
    some (.failed .unsupportedWidth, none, [0x01, 0x02, 0x03, 0x04]) := by decide
theorem test_read_width7 : run (.read 0 7 .be .unsigned .strict) [0x1f, 0xff, 0xff, 0xff, 0xff, 0xff, 0xff] =
    some (.ok, some 9007199254740991, [0x1f, 0xff, 0xff, 0xff, 0xff, 0xff, 0xff]) := by decide
theorem test_write_width3 : run (.write 0 3 0x010203 .be .unsigned .strict) [0x00, 0x00, 0x00, 0x00] =
    some (.ok, none, [0x01, 0x02, 0x03, 0x00]) := by decide
theorem test_write_width0 : run (.write 0 0 5 .be .unsigned .strict) [0x01] =
    some (.failed .unsupportedWidth, none, [0x01]) := by decide
theorem test_readUIntBE_too_large : run (.readUIntBE 7 0 .strict) [0xff, 0xff, 0xff, 0xff, 0xff, 0xff, 0xff] =
    some (.failed .integerTooLarge, none, [0xff, 0xff, 0xff, 0xff, 0xff, 0xff, 0xff]) := by decide
theorem test_readUIntLE_maxsafe : run (.readUIntLE 7 0 .strict) [0xff, 0xff, 0xff, 0xff, 0xff, 0xff, 0x1f] =
    some (.ok, some 9007199254740991, [0xff, 0xff, 0xff, 0xff, 0xff, 0xff, 0x1f]) := by decide
theorem test_readIntBE_width2 : run (.readIntBE 2 0 .strict) [0xff, 0xfe] = some (.ok, some (-2), [0xff, 0xfe]) := by decide
theorem test_readIntLE_width2 : run (.readIntLE 2 0 .strict) [0xfe, 0xff] = some (.ok, some (-2), [0xfe, 0xff]) := by decide
theorem test_writeUIntBE_width3 : run (.writeUIntBE 0x010203 3 0 .strict) [0x00, 0x00, 0x00] =
    some (.ok, none, [0x01, 0x02, 0x03]) := by decide
theorem test_writeUIntLE_width3 : run (.writeUIntLE 0x010203 3 0 .strict) [0x00, 0x00, 0x00] =
    some (.ok, none, [0x03, 0x02, 0x01]) := by decide
theorem test_writeIntBE_width2 : run (.writeIntBE (-2) 2 0 .strict) [0x00, 0x00] = some (.ok, none, [0xff, 0xfe]) := by decide
theorem test_writeIntLE_width2 : run (.writeIntLE (-2) 2 0 .strict) [0x00, 0x00] = some (.ok, none, [0xfe, 0xff]) := by decide
theorem test_generic_unsupported : ask 0xFF 100 (-2361183241434822606848) [0x01, 0x02] =
    some (.failed .unsupportedWidth, none, [0x01, 0x02]) := by decide

/-! ### The 8-bit instructions: the worked example of each rule, and one corner case -/

theorem test_readUInt8_example :
    ask 0x01 1 0 [0xaa, 0x01, 0xbb] =
      some (.ok, some 1, [0xaa, 0x01, 0xbb]) := by decide
theorem test_readUInt8_corner :
    ask 0x11 1 0 [0x01] =
      some (.ok, some 0, [0x01]) := by decide
theorem test_readInt8_example :
    ask 0x41 1 0 [0xaa, 0xfe, 0xbb] =
      some (.ok, some (-2), [0xaa, 0xfe, 0xbb]) := by decide
theorem test_readInt8_corner :
    ask 0x51 1 0 [0xfe] =
      some (.ok, some 0, [0xfe]) := by decide
theorem test_writeUInt8_example :
    ask 0x81 1 1 [0x00, 0x00, 0x00] =
      some (.ok, none, [0x00, 0x01, 0x00]) := by decide
theorem test_writeUInt8_corner :
    ask 0x81 0 (-1) [0x11] =
      some (.failed .outOfRange, none, [0x11]) := by decide
theorem test_writeInt8_example :
    ask 0xC1 1 (-2) [0x00, 0x00, 0x00] =
      some (.ok, none, [0x00, 0xfe, 0x00]) := by decide
theorem test_writeInt8_corner :
    ask 0xC1 0 (-129) [0x11] =
      some (.failed .outOfRange, none, [0x11]) := by decide

/-! ### The 16-bit instructions: the worked example of each rule, and one corner case -/

theorem test_readUInt16BE_example :
    ask 0x02 1 0 [0xaa, 0x01, 0x02, 0xbb] =
      some (.ok, some 258, [0xaa, 0x01, 0x02, 0xbb]) := by decide
theorem test_readUInt16BE_corner :
    ask 0x12 1 0 [0x01, 0x02] =
      some (.ok, some 512, [0x01, 0x02]) := by decide
theorem test_readUInt16LE_example :
    ask 0x22 1 0 [0xaa, 0x01, 0x02, 0xbb] =
      some (.ok, some 513, [0xaa, 0x01, 0x02, 0xbb]) := by decide
theorem test_readUInt16LE_corner :
    ask 0x32 1 0 [0x01, 0x02] =
      some (.ok, some 2, [0x01, 0x02]) := by decide
theorem test_readInt16BE_example :
    ask 0x42 1 0 [0xaa, 0xfe, 0xdc, 0xbb] =
      some (.ok, some (-292), [0xaa, 0xfe, 0xdc, 0xbb]) := by decide
theorem test_readInt16BE_corner :
    ask 0x52 1 0 [0xfe, 0xdc] =
      some (.ok, some (-9216), [0xfe, 0xdc]) := by decide
theorem test_readInt16LE_example :
    ask 0x62 1 0 [0xaa, 0xfe, 0xdc, 0xbb] =
      some (.ok, some (-8962), [0xaa, 0xfe, 0xdc, 0xbb]) := by decide
theorem test_readInt16LE_corner :
    ask 0x72 1 0 [0xfe, 0xdc] =
      some (.ok, some 220, [0xfe, 0xdc]) := by decide
theorem test_writeUInt16BE_example :
    ask 0x82 1 258 [0x00, 0x00, 0x00, 0x00] =
      some (.ok, none, [0x00, 0x01, 0x02, 0x00]) := by decide
theorem test_writeUInt16BE_corner :
    ask 0x92 (-1) 258 [0x11, 0x11] =
      some (.ok, none, [0x02, 0x11]) := by decide
theorem test_writeUInt16LE_example :
    ask 0xA2 1 258 [0x00, 0x00, 0x00, 0x00] =
      some (.ok, none, [0x00, 0x02, 0x01, 0x00]) := by decide
theorem test_writeUInt16LE_corner :
    ask 0xB2 (-1) 258 [0x11, 0x11] =
      some (.ok, none, [0x01, 0x11]) := by decide
theorem test_writeInt16BE_example :
    ask 0xC2 1 (-292) [0x00, 0x00, 0x00, 0x00] =
      some (.ok, none, [0x00, 0xfe, 0xdc, 0x00]) := by decide
theorem test_writeInt16BE_corner :
    ask 0xD2 (-1) (-292) [0x11, 0x11] =
      some (.ok, none, [0xdc, 0x11]) := by decide
theorem test_writeInt16LE_example :
    ask 0xE2 1 (-292) [0x00, 0x00, 0x00, 0x00] =
      some (.ok, none, [0x00, 0xdc, 0xfe, 0x00]) := by decide
theorem test_writeInt16LE_corner :
    ask 0xF2 (-1) (-292) [0x11, 0x11] =
      some (.ok, none, [0xfe, 0x11]) := by decide

/-! ### The 24-bit instructions: the worked example of each rule, and one corner case -/

theorem test_readUInt24BE_example :
    ask 0x03 1 0 [0xaa, 0x01, 0x02, 0x03, 0xbb] =
      some (.ok, some 66051, [0xaa, 0x01, 0x02, 0x03, 0xbb]) := by decide
theorem test_readUInt24BE_corner :
    ask 0x13 1 0 [0x01, 0x02, 0x03] =
      some (.ok, some 131840, [0x01, 0x02, 0x03]) := by decide
theorem test_readUInt24LE_example :
    ask 0x23 1 0 [0xaa, 0x01, 0x02, 0x03, 0xbb] =
      some (.ok, some 197121, [0xaa, 0x01, 0x02, 0x03, 0xbb]) := by decide
theorem test_readUInt24LE_corner :
    ask 0x33 1 0 [0x01, 0x02, 0x03] =
      some (.ok, some 770, [0x01, 0x02, 0x03]) := by decide
theorem test_readInt24BE_example :
    ask 0x43 1 0 [0xaa, 0xfe, 0xdc, 0xba, 0xbb] =
      some (.ok, some (-74566), [0xaa, 0xfe, 0xdc, 0xba, 0xbb]) := by decide
theorem test_readInt24BE_corner :
    ask 0x53 1 0 [0xfe, 0xdc, 0xba] =
      some (.ok, some (-2311680), [0xfe, 0xdc, 0xba]) := by decide
theorem test_readInt24LE_example :
    ask 0x63 1 0 [0xaa, 0xfe, 0xdc, 0xba, 0xbb] =
      some (.ok, some (-4530946), [0xaa, 0xfe, 0xdc, 0xba, 0xbb]) := by decide
theorem test_readInt24LE_corner :
    ask 0x73 1 0 [0xfe, 0xdc, 0xba] =
      some (.ok, some 47836, [0xfe, 0xdc, 0xba]) := by decide
theorem test_writeUInt24BE_example :
    ask 0x83 1 66051 [0x00, 0x00, 0x00, 0x00, 0x00] =
      some (.ok, none, [0x00, 0x01, 0x02, 0x03, 0x00]) := by decide
theorem test_writeUInt24BE_corner :
    ask 0x93 (-1) 66051 [0x11, 0x11, 0x11] =
      some (.ok, none, [0x02, 0x03, 0x11]) := by decide
theorem test_writeUInt24LE_example :
    ask 0xA3 1 66051 [0x00, 0x00, 0x00, 0x00, 0x00] =
      some (.ok, none, [0x00, 0x03, 0x02, 0x01, 0x00]) := by decide
theorem test_writeUInt24LE_corner :
    ask 0xB3 (-1) 66051 [0x11, 0x11, 0x11] =
      some (.ok, none, [0x02, 0x01, 0x11]) := by decide
theorem test_writeInt24BE_example :
    ask 0xC3 1 (-74566) [0x00, 0x00, 0x00, 0x00, 0x00] =
      some (.ok, none, [0x00, 0xfe, 0xdc, 0xba, 0x00]) := by decide
theorem test_writeInt24BE_corner :
    ask 0xD3 (-1) (-74566) [0x11, 0x11, 0x11] =
      some (.ok, none, [0xdc, 0xba, 0x11]) := by decide
theorem test_writeInt24LE_example :
    ask 0xE3 1 (-74566) [0x00, 0x00, 0x00, 0x00, 0x00] =
      some (.ok, none, [0x00, 0xba, 0xdc, 0xfe, 0x00]) := by decide
theorem test_writeInt24LE_corner :
    ask 0xF3 (-1) (-74566) [0x11, 0x11, 0x11] =
      some (.ok, none, [0xdc, 0xfe, 0x11]) := by decide

/-! ### The 32-bit instructions: the worked example of each rule, and one corner case -/

theorem test_readUInt32BE_example :
    ask 0x04 1 0 [0xaa, 0x01, 0x02, 0x03, 0x04, 0xbb] =
      some (.ok, some 16909060, [0xaa, 0x01, 0x02, 0x03, 0x04, 0xbb]) := by decide
theorem test_readUInt32BE_corner :
    ask 0x14 1 0 [0x01, 0x02, 0x03, 0x04] =
      some (.ok, some 33752064, [0x01, 0x02, 0x03, 0x04]) := by decide
theorem test_readUInt32LE_example :
    ask 0x24 1 0 [0xaa, 0x01, 0x02, 0x03, 0x04, 0xbb] =
      some (.ok, some 67305985, [0xaa, 0x01, 0x02, 0x03, 0x04, 0xbb]) := by decide
theorem test_readUInt32LE_corner :
    ask 0x34 1 0 [0x01, 0x02, 0x03, 0x04] =
      some (.ok, some 262914, [0x01, 0x02, 0x03, 0x04]) := by decide
theorem test_readInt32BE_example :
    ask 0x44 1 0 [0xaa, 0xfe, 0xdc, 0xba, 0x98, 0xbb] =
      some (.ok, some (-19088744), [0xaa, 0xfe, 0xdc, 0xba, 0x98, 0xbb]) := by decide
theorem test_readInt32BE_corner :
    ask 0x54 1 0 [0xfe, 0xdc, 0xba, 0x98] =
      some (.ok, some (-591751168), [0xfe, 0xdc, 0xba, 0x98]) := by decide
theorem test_readInt32LE_example :
    ask 0x64 1 0 [0xaa, 0xfe, 0xdc, 0xba, 0x98, 0xbb] =
      some (.ok, some (-1732584194), [0xaa, 0xfe, 0xdc, 0xba, 0x98, 0xbb]) := by decide
theorem test_readInt32LE_corner :
    ask 0x74 1 0 [0xfe, 0xdc, 0xba, 0x98] =
      some (.ok, some 10009308, [0xfe, 0xdc, 0xba, 0x98]) := by decide
theorem test_writeUInt32BE_example :
    ask 0x84 1 16909060 [0x00, 0x00, 0x00, 0x00, 0x00, 0x00] =
      some (.ok, none, [0x00, 0x01, 0x02, 0x03, 0x04, 0x00]) := by decide
theorem test_writeUInt32BE_corner :
    ask 0x94 (-1) 16909060 [0x11, 0x11, 0x11, 0x11] =
      some (.ok, none, [0x02, 0x03, 0x04, 0x11]) := by decide
theorem test_writeUInt32LE_example :
    ask 0xA4 1 16909060 [0x00, 0x00, 0x00, 0x00, 0x00, 0x00] =
      some (.ok, none, [0x00, 0x04, 0x03, 0x02, 0x01, 0x00]) := by decide
theorem test_writeUInt32LE_corner :
    ask 0xB4 (-1) 16909060 [0x11, 0x11, 0x11, 0x11] =
      some (.ok, none, [0x03, 0x02, 0x01, 0x11]) := by decide
theorem test_writeInt32BE_example :
    ask 0xC4 1 (-19088744) [0x00, 0x00, 0x00, 0x00, 0x00, 0x00] =
      some (.ok, none, [0x00, 0xfe, 0xdc, 0xba, 0x98, 0x00]) := by decide
theorem test_writeInt32BE_corner :
    ask 0xD4 (-1) (-19088744) [0x11, 0x11, 0x11, 0x11] =
      some (.ok, none, [0xdc, 0xba, 0x98, 0x11]) := by decide
theorem test_writeInt32LE_example :
    ask 0xE4 1 (-19088744) [0x00, 0x00, 0x00, 0x00, 0x00, 0x00] =
      some (.ok, none, [0x00, 0x98, 0xba, 0xdc, 0xfe, 0x00]) := by decide
theorem test_writeInt32LE_corner :
    ask 0xF4 (-1) (-19088744) [0x11, 0x11, 0x11, 0x11] =
      some (.ok, none, [0xba, 0xdc, 0xfe, 0x11]) := by decide

/-! ### The 40-bit instructions: the worked example of each rule, and one corner case -/

theorem test_readUInt40BE_example :
    ask 0x05 1 0 [0xaa, 0x01, 0x02, 0x03, 0x04, 0x05, 0xbb] =
      some (.ok, some 4328719365, [0xaa, 0x01, 0x02, 0x03, 0x04, 0x05, 0xbb]) := by decide
theorem test_readUInt40BE_corner :
    ask 0x15 1 0 [0x01, 0x02, 0x03, 0x04, 0x05] =
      some (.ok, some 8640529664, [0x01, 0x02, 0x03, 0x04, 0x05]) := by decide
theorem test_readUInt40LE_example :
    ask 0x25 1 0 [0xaa, 0x01, 0x02, 0x03, 0x04, 0x05, 0xbb] =
      some (.ok, some 21542142465, [0xaa, 0x01, 0x02, 0x03, 0x04, 0x05, 0xbb]) := by decide
theorem test_readUInt40LE_corner :
    ask 0x35 1 0 [0x01, 0x02, 0x03, 0x04, 0x05] =
      some (.ok, some 84148994, [0x01, 0x02, 0x03, 0x04, 0x05]) := by decide
theorem test_readInt40BE_example :
    ask 0x45 1 0 [0xaa, 0xfe, 0xdc, 0xba, 0x98, 0x76, 0xbb] =
      some (.ok, some (-4886718346), [0xaa, 0xfe, 0xdc, 0xba, 0x98, 0x76, 0xbb]) := by decide
theorem test_readInt40BE_corner :
    ask 0x55 1 0 [0xfe, 0xdc, 0xba, 0x98, 0x76] =
      some (.ok, some (-151488268800), [0xfe, 0xdc, 0xba, 0x98, 0x76]) := by decide
theorem test_readInt40LE_example :
    ask 0x65 1 0 [0xaa, 0xfe, 0xdc, 0xba, 0x98, 0x76, 0xbb] =
      some (.ok, some 509368524030, [0xaa, 0xfe, 0xdc, 0xba, 0x98, 0x76, 0xbb]) := by decide
theorem test_readInt40LE_corner :
    ask 0x75 1 0 [0xfe, 0xdc, 0xba, 0x98, 0x76] =
      some (.ok, some 1989720796, [0xfe, 0xdc, 0xba, 0x98, 0x76]) := by decide
theorem test_writeUInt40BE_example :
    ask 0x85 1 4328719365 [0x00, 0x00, 0x00, 0x00, 0x00, 0x00, 0x00] =
      some (.ok, none, [0x00, 0x01, 0x02, 0x03, 0x04, 0x05, 0x00]) := by decide
theorem test_writeUInt40BE_corner :
    ask 0x95 (-1) 4328719365 [0x11, 0x11, 0x11, 0x11, 0x11] =
      some (.ok, none, [0x02, 0x03, 0x04, 0x05, 0x11]) := by decide
theorem test_writeUInt40LE_example :
    ask 0xA5 1 4328719365 [0x00, 0x00, 0x00, 0x00, 0x00, 0x00, 0x00] =
      some (.ok, none, [0x00, 0x05, 0x04, 0x03, 0x02, 0x01, 0x00]) := by decide
theorem test_writeUInt40LE_corner :
    ask 0xB5 (-1) 4328719365 [0x11, 0x11, 0x11, 0x11, 0x11] =
      some (.ok, none, [0x04, 0x03, 0x02, 0x01, 0x11]) := by decide
theorem test_writeInt40BE_example :
    ask 0xC5 1 (-4886718346) [0x00, 0x00, 0x00, 0x00, 0x00, 0x00, 0x00] =
      some (.ok, none, [0x00, 0xfe, 0xdc, 0xba, 0x98, 0x76, 0x00]) := by decide
theorem test_writeInt40BE_corner :
    ask 0xD5 (-1) (-4886718346) [0x11, 0x11, 0x11, 0x11, 0x11] =
      some (.ok, none, [0xdc, 0xba, 0x98, 0x76, 0x11]) := by decide
theorem test_writeInt40LE_example :
    ask 0xE5 1 (-4886718346) [0x00, 0x00, 0x00, 0x00, 0x00, 0x00, 0x00] =
      some (.ok, none, [0x00, 0x76, 0x98, 0xba, 0xdc, 0xfe, 0x00]) := by decide
theorem test_writeInt40LE_corner :
    ask 0xF5 (-1) (-4886718346) [0x11, 0x11, 0x11, 0x11, 0x11] =
      some (.ok, none, [0x98, 0xba, 0xdc, 0xfe, 0x11]) := by decide

/-! ### The 48-bit instructions: the worked example of each rule, and one corner case -/

theorem test_readUInt48BE_example :
    ask 0x06 1 0 [0xaa, 0x01, 0x02, 0x03, 0x04, 0x05, 0x06, 0xbb] =
      some (.ok, some 1108152157446, [0xaa, 0x01, 0x02, 0x03, 0x04, 0x05, 0x06, 0xbb]) := by decide
theorem test_readUInt48BE_corner :
    ask 0x16 1 0 [0x01, 0x02, 0x03, 0x04, 0x05, 0x06] =
      some (.ok, some 2211975595520, [0x01, 0x02, 0x03, 0x04, 0x05, 0x06]) := by decide
theorem test_readUInt48LE_example :
    ask 0x26 1 0 [0xaa, 0x01, 0x02, 0x03, 0x04, 0x05, 0x06, 0xbb] =
      some (.ok, some 6618611909121, [0xaa, 0x01, 0x02, 0x03, 0x04, 0x05, 0x06, 0xbb]) := by decide
theorem test_readUInt48LE_corner :
    ask 0x36 1 0 [0x01, 0x02, 0x03, 0x04, 0x05, 0x06] =
      some (.ok, some 25853952770, [0x01, 0x02, 0x03, 0x04, 0x05, 0x06]) := by decide
theorem test_readInt48BE_example :
    ask 0x46 1 0 [0xaa, 0xfe, 0xdc, 0xba, 0x98, 0x76, 0x54, 0xbb] =
      some (.ok, some (-1250999896492), [0xaa, 0xfe, 0xdc, 0xba, 0x98, 0x76, 0x54, 0xbb]) := by decide
theorem test_readInt48BE_corner :
    ask 0x56 1 0 [0xfe, 0xdc, 0xba, 0x98, 0x76, 0x54] =
      some (.ok, some (-38780996791296), [0xfe, 0xdc, 0xba, 0x98, 0x76, 0x54]) := by decide
theorem test_readInt48LE_example :
    ask 0x66 1 0 [0xaa, 0xfe, 0xdc, 0xba, 0x98, 0x76, 0x54, 0xbb] =
      some (.ok, some 92868345257214, [0xaa, 0xfe, 0xdc, 0xba, 0x98, 0x76, 0x54, 0xbb]) := by decide
theorem test_readInt48LE_corner :
    ask 0x76 1 0 [0xfe, 0xdc, 0xba, 0x98, 0x76, 0x54] =
      some (.ok, some 362766973660, [0xfe, 0xdc, 0xba, 0x98, 0x76, 0x54]) := by decide
theorem test_writeUInt48BE_example :
    ask 0x86 1 1108152157446 [0x00, 0x00, 0x00, 0x00, 0x00, 0x00, 0x00, 0x00] =
      some (.ok, none, [0x00, 0x01, 0x02, 0x03, 0x04, 0x05, 0x06, 0x00]) := by decide
theorem test_writeUInt48BE_corner :
    ask 0x96 (-1) 1108152157446 [0x11, 0x11, 0x11, 0x11, 0x11, 0x11] =
      some (.ok, none, [0x02, 0x03, 0x04, 0x05, 0x06, 0x11]) := by decide
theorem test_writeUInt48LE_example :
    ask 0xA6 1 1108152157446 [0x00, 0x00, 0x00, 0x00, 0x00, 0x00, 0x00, 0x00] =
      some (.ok, none, [0x00, 0x06, 0x05, 0x04, 0x03, 0x02, 0x01, 0x00]) := by decide
theorem test_writeUInt48LE_corner :
    ask 0xB6 (-1) 1108152157446 [0x11, 0x11, 0x11, 0x11, 0x11, 0x11] =
      some (.ok, none, [0x05, 0x04, 0x03, 0x02, 0x01, 0x11]) := by decide
theorem test_writeInt48BE_example :
    ask 0xC6 1 (-1250999896492) [0x00, 0x00, 0x00, 0x00, 0x00, 0x00, 0x00, 0x00] =
      some (.ok, none, [0x00, 0xfe, 0xdc, 0xba, 0x98, 0x76, 0x54, 0x00]) := by decide
theorem test_writeInt48BE_corner :
    ask 0xD6 (-1) (-1250999896492) [0x11, 0x11, 0x11, 0x11, 0x11, 0x11] =
      some (.ok, none, [0xdc, 0xba, 0x98, 0x76, 0x54, 0x11]) := by decide
theorem test_writeInt48LE_example :
    ask 0xE6 1 (-1250999896492) [0x00, 0x00, 0x00, 0x00, 0x00, 0x00, 0x00, 0x00] =
      some (.ok, none, [0x00, 0x54, 0x76, 0x98, 0xba, 0xdc, 0xfe, 0x00]) := by decide
theorem test_writeInt48LE_corner :
    ask 0xF6 (-1) (-1250999896492) [0x11, 0x11, 0x11, 0x11, 0x11, 0x11] =
      some (.ok, none, [0x76, 0x98, 0xba, 0xdc, 0xfe, 0x11]) := by decide

/-! ### The 56-bit instructions: the worked example of each rule, and one corner case -/

theorem test_readUInt56BE_example :
    ask 0x07 1 0 [0xaa, 0x01, 0x02, 0x03, 0x04, 0x05, 0x06, 0x07, 0xbb] =
      some (.ok, some 283686952306183, [0xaa, 0x01, 0x02, 0x03, 0x04, 0x05, 0x06, 0x07, 0xbb]) := by decide
theorem test_readUInt56BE_corner :
    ask 0x07 0 0 [0x20, 0x00, 0x00, 0x00, 0x00, 0x00, 0x00] =
      some (.failed .integerTooLarge, none, [0x20, 0x00, 0x00, 0x00, 0x00, 0x00, 0x00]) := by decide
theorem test_readUInt56LE_example :
    ask 0x27 1 0 [0xaa, 0x01, 0x02, 0x03, 0x04, 0x05, 0x06, 0x07, 0xbb] =
      some (.ok, some 1976943448883713, [0xaa, 0x01, 0x02, 0x03, 0x04, 0x05, 0x06, 0x07, 0xbb]) := by decide
theorem test_readUInt56LE_corner :
    ask 0x27 0 0 [0x00, 0x00, 0x00, 0x00, 0x00, 0x00, 0x20] =
      some (.failed .integerTooLarge, none, [0x00, 0x00, 0x00, 0x00, 0x00, 0x00, 0x20]) := by decide
theorem test_readInt56BE_example :
    ask 0x47 1 0 [0xaa, 0xff, 0xf1, 0x23, 0x45, 0x67, 0xf2, 0xff, 0xbb] =
      some (.ok, some (-16341186120961), [0xaa, 0xff, 0xf1, 0x23, 0x45, 0x67, 0xf2, 0xff, 0xbb]) := by decide
theorem test_readInt56BE_corner :
    ask 0x47 0 0 [0xe0, 0x00, 0x00, 0x00, 0x00, 0x00, 0x00] =
      some (.failed .integerTooLarge, none, [0xe0, 0x00, 0x00, 0x00, 0x00, 0x00, 0x00]) := by decide
theorem test_readInt56LE_example :
    ask 0x67 1 0 [0xaa, 0xff, 0xf1, 0x23, 0x45, 0x67, 0xf2, 0xff, 0xbb] =
      some (.ok, some (-14949621173761), [0xaa, 0xff, 0xf1, 0x23, 0x45, 0x67, 0xf2, 0xff, 0xbb]) := by decide
theorem test_readInt56LE_corner :
    ask 0x67 0 0 [0x00, 0x00, 0x00, 0x00, 0x00, 0x00, 0xe0] =
      some (.failed .integerTooLarge, none, [0x00, 0x00, 0x00, 0x00, 0x00, 0x00, 0xe0]) := by decide
theorem test_writeUInt56BE_example :
    ask 0x87 1 283686952306183 [0x00, 0x00, 0x00, 0x00, 0x00, 0x00, 0x00, 0x00, 0x00] =
      some (.ok, none, [0x00, 0x01, 0x02, 0x03, 0x04, 0x05, 0x06, 0x07, 0x00]) := by decide
theorem test_writeUInt56BE_corner :
    ask 0x97 1 72057594037927936 [0x11, 0x11, 0x11, 0x11, 0x11, 0x11, 0x11, 0x11, 0x11] =
      some (.ok, none, [0x11, 0xff, 0xff, 0xff, 0xff, 0xff, 0xff, 0xff, 0x11]) := by decide
theorem test_writeUInt56LE_example :
    ask 0xA7 1 283686952306183 [0x00, 0x00, 0x00, 0x00, 0x00, 0x00, 0x00, 0x00, 0x00] =
      some (.ok, none, [0x00, 0x07, 0x06, 0x05, 0x04, 0x03, 0x02, 0x01, 0x00]) := by decide
theorem test_writeUInt56LE_corner :
    ask 0xB7 1 72057594037927936 [0x11, 0x11, 0x11, 0x11, 0x11, 0x11, 0x11, 0x11, 0x11] =
      some (.ok, none, [0x11, 0xff, 0xff, 0xff, 0xff, 0xff, 0xff, 0xff, 0x11]) := by decide
theorem test_writeInt56BE_example :
    ask 0xC7 1 (-16341186120961) [0x00, 0x00, 0x00, 0x00, 0x00, 0x00, 0x00, 0x00, 0x00] =
      some (.ok, none, [0x00, 0xff, 0xf1, 0x23, 0x45, 0x67, 0xf2, 0xff, 0x00]) := by decide
theorem test_writeInt56BE_corner :
    ask 0xD7 1 36028797018963968 [0x11, 0x11, 0x11, 0x11, 0x11, 0x11, 0x11, 0x11, 0x11] =
      some (.ok, none, [0x11, 0x7f, 0xff, 0xff, 0xff, 0xff, 0xff, 0xff, 0x11]) := by decide
theorem test_writeInt56LE_example :
    ask 0xE7 1 (-16341186120961) [0x00, 0x00, 0x00, 0x00, 0x00, 0x00, 0x00, 0x00, 0x00] =
      some (.ok, none, [0x00, 0xff, 0xf2, 0x67, 0x45, 0x23, 0xf1, 0xff, 0x00]) := by decide
theorem test_writeInt56LE_corner :
    ask 0xF7 1 36028797018963968 [0x11, 0x11, 0x11, 0x11, 0x11, 0x11, 0x11, 0x11, 0x11] =
      some (.ok, none, [0x11, 0xff, 0xff, 0xff, 0xff, 0xff, 0xff, 0x7f, 0x11]) := by decide

/-! ### The 64-bit instructions: the worked example of each rule, and one corner case -/

theorem test_readUInt64BE_example :
    ask 0x08 1 0 [0xaa, 0x00, 0x0a, 0x0b, 0x0c, 0x0d, 0x0e, 0x0f, 0x00, 0xbb] =
      some (.ok, some 2826896153644800, [0xaa, 0x00, 0x0a, 0x0b, 0x0c, 0x0d, 0x0e, 0x0f, 0x00, 0xbb]) := by decide
theorem test_readUInt64BE_corner :
    ask 0x08 0 0 [0x00, 0x20, 0x00, 0x00, 0x00, 0x00, 0x00, 0x00] =
      some (.failed .integerTooLarge, none, [0x00, 0x20, 0x00, 0x00, 0x00, 0x00, 0x00, 0x00]) := by decide
theorem test_readUInt64LE_example :
    ask 0x28 1 0 [0xaa, 0x00, 0x0a, 0x0b, 0x0c, 0x0d, 0x0e, 0x0f, 0x00, 0xbb] =
      some (.ok, some 4237573850073600, [0xaa, 0x00, 0x0a, 0x0b, 0x0c, 0x0d, 0x0e, 0x0f, 0x00, 0xbb]) := by decide
theorem test_readUInt64LE_corner :
    ask 0x28 0 0 [0x00, 0x00, 0x00, 0x00, 0x00, 0x00, 0x20, 0x00] =
      some (.failed .integerTooLarge, none, [0x00, 0x00, 0x00, 0x00, 0x00, 0x00, 0x20, 0x00]) := by decide
theorem test_readInt64BE_example :
    ask 0x48 1 0 [0xaa, 0xff, 0xff, 0x12, 0x34, 0x56, 0x78, 0xfe, 0xff, 0xbb] =
      some (.ok, some (-261458978341121), [0xaa, 0xff, 0xff, 0x12, 0x34, 0x56, 0x78, 0xfe, 0xff, 0xbb]) := by decide
theorem test_readInt64BE_corner :
    ask 0x48 0 0 [0xff, 0xe0, 0x00, 0x00, 0x00, 0x00, 0x00, 0x00] =
      some (.failed .integerTooLarge, none, [0xff, 0xe0, 0x00, 0x00, 0x00, 0x00, 0x00, 0x00]) := by decide
theorem test_readInt64LE_example :
    ask 0x68 1 0 [0xaa, 0xff, 0xff, 0x12, 0x34, 0x56, 0x78, 0xfe, 0xff, 0xbb] =
      some (.ok, some (-430638317240321), [0xaa, 0xff, 0xff, 0x12, 0x34, 0x56, 0x78, 0xfe, 0xff, 0xbb]) := by decide
theorem test_readInt64LE_corner :
    ask 0x68 0 0 [0x00, 0x00, 0x00, 0x00, 0x00, 0x00, 0xe0, 0xff] =
      some (.failed .integerTooLarge, none, [0x00, 0x00, 0x00, 0x00, 0x00, 0x00, 0xe0, 0xff]) := by decide
theorem test_writeUInt64BE_example :
    ask 0x88 1 2826896153644800 [0x00, 0x00, 0x00, 0x00, 0x00, 0x00, 0x00, 0x00, 0x00, 0x00] =
      some (.ok, none, [0x00, 0x00, 0x0a, 0x0b, 0x0c, 0x0d, 0x0e, 0x0f, 0x00, 0x00]) := by decide
theorem test_writeUInt64BE_corner :
    ask 0x98 1 18446744073709551616 [0x11, 0x11, 0x11, 0x11, 0x11, 0x11, 0x11, 0x11, 0x11, 0x11] =
      some (.ok, none, [0x11, 0xff, 0xff, 0xff, 0xff, 0xff, 0xff, 0xff, 0xff, 0x11]) := by decide
theorem test_writeUInt64LE_example :
    ask 0xA8 1 2826896153644800 [0x00, 0x00, 0x00, 0x00, 0x00, 0x00, 0x00, 0x00, 0x00, 0x00] =
      some (.ok, none, [0x00, 0x00, 0x0f, 0x0e, 0x0d, 0x0c, 0x0b, 0x0a, 0x00, 0x00]) := by decide
theorem test_writeUInt64LE_corner :
    ask 0xB8 1 18446744073709551616 [0x11, 0x11, 0x11, 0x11, 0x11, 0x11, 0x11, 0x11, 0x11, 0x11] =
      some (.ok, none, [0x11, 0xff, 0xff, 0xff, 0xff, 0xff, 0xff, 0xff, 0xff, 0x11]) := by decide
theorem test_writeInt64BE_example :
    ask 0xC8 1 (-261458978341121) [0x00, 0x00, 0x00, 0x00, 0x00, 0x00, 0x00, 0x00, 0x00, 0x00] =
      some (.ok, none, [0x00, 0xff, 0xff, 0x12, 0x34, 0x56, 0x78, 0xfe, 0xff, 0x00]) := by decide
theorem test_writeInt64BE_corner :
    ask 0xD8 1 9223372036854775808 [0x11, 0x11, 0x11, 0x11, 0x11, 0x11, 0x11, 0x11, 0x11, 0x11] =
      some (.ok, none, [0x11, 0x7f, 0xff, 0xff, 0xff, 0xff, 0xff, 0xff, 0xff, 0x11]) := by decide
theorem test_writeInt64LE_example :
    ask 0xE8 1 (-261458978341121) [0x00, 0x00, 0x00, 0x00, 0x00, 0x00, 0x00, 0x00, 0x00, 0x00] =
      some (.ok, none, [0x00, 0xff, 0xfe, 0x78, 0x56, 0x34, 0x12, 0xff, 0xff, 0x00]) := by decide
theorem test_writeInt64LE_corner :
    ask 0xF8 1 9223372036854775808 [0x11, 0x11, 0x11, 0x11, 0x11, 0x11, 0x11, 0x11, 0x11, 0x11] =
      some (.ok, none, [0x11, 0xff, 0xff, 0xff, 0xff, 0xff, 0xff, 0xff, 0x7f, 0x11]) := by decide

/-! ### Witnesses: the hypotheses of each obligation can be met together, at boundary values -/

theorem witness_DecodeOfEncode :
    (Instr.writeInt64LE (-2361183241434822606848) 2147483647 .lenient).wellFormed = true ∧
    (Instr.writeInt64LE (-2361183241434822606848) 2147483647 .lenient).mostSpecific = true ∧
    (Instr.readUIntBE 15 (-2147483648) .strict).wellFormed = true ∧
    (Instr.readUIntBE 15 (-2147483648) .strict).mostSpecific = true := by decide

theorem witness_DecodeKeepsEveryField :
    (Request.mk 0x82 0 1).width ≠ 1 ∧ (Request.mk 0x82 0 1).dir = .write := by decide

theorem witness_StepRunsTheDecodedCommand :
    (State.reset.withFetchWord 8 0x81).host = .command (Request.ofWord 0x81) :: [] := by decide

theorem witness_IssuedInstructionRuns :
    (Instr.read 0 8 .le .signed .strict).wellFormed = true ∧
    ({ State.reset with host := [.command (encode (.read 0 8 .le .signed .strict)), .reset] } : State).host =
      .command (encode (.read 0 8 .le .signed .strict)) :: [.reset] := by decide

theorem witness_SameRequestSameEffect :
    (Instr.readUIntBE 7 0 .strict).wellFormed = true ∧ (Instr.readUInt56BE 0 .strict).wellFormed = true ∧
    encode (.readUIntBE 7 0 .strict) = encode (.readUInt56BE 0 .strict) := by decide

/-- END differs at width 1, WVAL differs in a read, everything but WIDTH differs at width 9. -/
theorem witness_IgnoredInputsHaveNoEffect :
    (∀ r r' : Request, (r, r') ∈ [(⟨0x01, 3, 0⟩, ⟨0x21, 3, 7⟩), (⟨0x02, 3, 0⟩, ⟨0x02, 3, 7⟩), (⟨0x09, 0, 0⟩, ⟨0xF9, 5, 7⟩)] →
      r ≠ r' ∧ r.width = r'.width ∧
      (Supported r.width → r.dir = r'.dir ∧ r.sgn = r'.sgn ∧ r.mode = r'.mode ∧ r.offset = r'.offset ∧
        (r.width ≠ 1 → r.endian = r'.endian) ∧ (r.dir = .write → r.wval = r'.wval))) := by
  intro r r' h
  simp only [List.mem_cons, List.not_mem_nil, or_false, Prod.mk.injEq] at h
  rcases h with ⟨rfl, rfl⟩ | ⟨rfl, rfl⟩ | ⟨rfl, rfl⟩ <;> decide

theorem witness_UnsupportedWidthFails : ¬ Supported 0 ∧ ¬ Supported 9 ∧ ¬ Supported 15 := by decide

/-- A buffer of exactly the width, and a lenient access beyond it, for every width (the hypotheses of the reads' and the
writes' completion statements). -/
theorem witness_Fits :
    (∀ w ∈ [1, 2, 3, 4, 5, 6, 7, 8], Fits .strict 0 w (State.withBytes (List.replicate w 0))) ∧
    (∀ w ∈ [1, 2, 3, 4, 5, 6, 7, 8], ¬ Fits .strict 1 w (State.withBytes (List.replicate w 0))) ∧
    Fits .lenient 5 8 State.reset := by decide

/-- The four 7-byte and 8-byte reads' second hypothesis: a value at the bound passes, one beyond does not. -/
theorem witness_GuardedReadsAnswer :
    (∀ e ∈ [Endian.be, Endian.le], ∀ sg ∈ [Signedness.unsigned, .signed], ∀ w ∈ [7, 8],
      ¬ TooLarge (flatValue w e sg 0 (Memory.ofBytes (List.replicate w 0)))) ∧
    ¬ TooLarge (flatValue 7 .be .unsigned 0 (Memory.ofBytes [0x1f, 0xff, 0xff, 0xff, 0xff, 0xff, 0xff])) ∧
    TooLarge (flatValue 7 .le .unsigned 0 (Memory.ofBytes [0, 0, 0, 0, 0, 0, 0x20])) ∧
    ¬ TooLarge (flatValue 8 .be .signed 0 (Memory.ofBytes [0xff, 0xe0, 0, 0, 0, 0, 0, 0x01])) ∧
    TooLarge (flatValue 8 .le .signed 0 (Memory.ofBytes [0, 0, 0, 0, 0, 0, 0xe0, 0xff])) := by decide

theorem witness_GenericReadsAnswer :
    Supported 8 ∧ Fits .strict 0 8 (State.withBytes [0, 0, 0, 0, 0, 0, 0, 5]) ∧
    (∀ e ∈ [Endian.be, Endian.le], ∀ sg ∈ [Signedness.unsigned, .signed],
      ¬ TooLarge (flatValue 8 e sg 0 (State.withBytes [0, 0, 0, 0, 0, 0, 0, 0]).buf)) := by decide

theorem witness_GuardDecidesEveryRead :
    (Instr.readInt64LE 0 .strict).isRead ∧ Supported (Instr.readInt64LE 0 .strict).fields.width ∧
    Fits (Instr.readInt64LE 0 .strict).fields.mode (Instr.readInt64LE 0 .strict).fields.offset
      (Instr.readInt64LE 0 .strict).fields.width (State.withBytes [0, 0, 0, 0, 0, 0, 0xe0, 0xff]) := by decide

/-- A read that answers, a read that fails and a write, each with its next state. -/
theorem witness_next_states :
    exec (.readUInt8 0 .strict) (State.withBytes [0xff]) =
      .next ((answer (exec (.readUInt8 0 .strict) (State.withBytes [0xff]))).getD State.reset) ∧
    exec (.readUInt8 1 .strict) (State.withBytes [0xff]) =
      .next ((answer (exec (.readUInt8 1 .strict) (State.withBytes [0xff]))).getD State.reset) ∧
    exec (.writeUInt8 1 0 .lenient) (State.withBytes [0xff]) =
      .next ((answer (exec (.writeUInt8 1 0 .lenient) (State.withBytes [0xff]))).getD State.reset) ∧
    exec (.writeUInt8 256 0 .lenient) (State.withBytes [0xff]) =
      .next ((answer (exec (.writeUInt8 256 0 .lenient) (State.withBytes [0xff]))).getD State.reset) :=
  ⟨next_of_answer _ (by decide), next_of_answer _ (by decide), next_of_answer _ (by decide), next_of_answer _ (by decide)⟩

/-- RvalIsTheDecodedValue: a read that ends with OK, a write, and a failing read. -/
theorem witness_RvalIsTheDecodedValue :
    (Instr.readUInt8 0 .strict).isRead ∧ (run (.readUInt8 0 .strict) [0xff]).map Prod.fst = some .ok ∧
    (Instr.writeUInt8 1 0 .lenient).isWrite ∧
    (run (.readUInt8 1 .strict) [0xff]).map Prod.fst = some (.failed .bufferOverrun) := by decide

theorem witness_EndiannessSymmetry :
    Supported 3 ∧ (State.withBytes [3, 2, 1]).buf.bufLen = (State.withBytes [1, 2, 3]).buf.bufLen ∧
    (∀ i : Nat, i < 3 → byteAt (State.withBytes [3, 2, 1]).buf (0 + (i : Int)) =
      byteAt (State.withBytes [1, 2, 3]).buf (0 + ((3 : Nat) : Int) - 1 - (i : Int))) ∧
    (answer (exec (.read 0 3 .be .signed .strict) (State.withBytes [1, 2, 3]))).isSome = true := by decide

theorem witness_AlignmentDoesNotMatter :
    Fits .strict 0 2 (State.withBytes [1, 2]) ∧ Fits .strict 1 2 (State.withBytes [9, 1, 2]) ∧
    (∀ i : Nat, i < 2 → byteAt (State.withBytes [9, 1, 2]).buf (1 + (i : Int)) =
      byteAt (State.withBytes [1, 2]).buf (0 + (i : Int))) ∧
    (answer (exec (.read 0 2 .be .signed .strict) (State.withBytes [1, 2]))).isSome = true := by decide

/-- The region ends right before cell 0. -/
theorem witness_LenientReadOutsideIsZero :
    (Instr.readInt16BE (-2) .lenient).isRead ∧ Supported (Instr.readInt16BE (-2) .lenient).fields.width ∧
    (Instr.readInt16BE (-2) .lenient).fields.mode = .lenient ∧ (State.withBytes [1, 2]).buf.wf ∧
    ∀ a : Int, InRegion (Instr.readInt16BE (-2) .lenient).fields.offset (Instr.readInt16BE (-2) .lenient).fields.width a →
      ¬ (0 ≤ a ∧ a < ((State.withBytes [1, 2]).buf.bufLen : Int)) := by
  refine ⟨by decide, by decide, by decide, by decide, ?_⟩
  intro a h
  have h2 : a < -2 + 2 := h.2
  omega

/-- Both ends of the nominal range at every width and signedness, with a region that fits (the hypotheses of the writes'
completion statements). -/
theorem witness_writes :
    ∀ w ∈ [1, 2, 3, 4, 5, 6, 7, 8], ∀ sg ∈ [Signedness.unsigned, .signed],
      Supported w ∧ InRange w sg (minVal w sg) ∧ InRange w sg (maxVal w sg) ∧
      Fits .strict 0 w (State.withBytes (List.replicate w 0)) := by decide

theorem witness_LenientWritesSaturate :
    maxVal 7 .unsigned ≤ 72057594037927935 ∧ maxVal 7 .signed ≤ 36028797018963967 ∧
    maxVal 8 .unsigned ≤ 18446744073709551615 ∧ maxVal 8 .signed ≤ 2361183241434822606847 := by decide

/-- One above the range at width 6, one below it at width 8. -/
theorem witness_LenientOutOfRangeLeavesFreeBytes :
    DrawsBytes (Instr.writeUInt48BE 281474976710656 0 .lenient).fields ∧
    DrawsBytes (Instr.writeInt64LE (-9223372036854775809) 0 .lenient).fields := by decide

/-- A strict write that succeeds and one that fails. -/
theorem witness_WriteFootprint :
    (Instr.writeUInt8 255 0 .strict).isWrite ∧ (State.withBytes [1]).buf.wf ∧
    (run (.writeUInt8 255 0 .strict) [1]).map Prod.fst = some .ok ∧ (Instr.writeUInt8 255 0 .strict).fields.mode = .strict ∧
    (run (.writeUInt8 256 0 .strict) [1]).map Prod.fst = some (.failed .outOfRange) := by decide

/-- FailureChangesNothingElse and FailureLeavesNoTrace: a command whose response is a failure. -/
theorem witness_failure :
    exec (.readUInt8 1 .strict) (State.withBytes [0xff]) = .next ((State.withBytes [0xff]).afterFailure .bufferOverrun) ∧
    ((State.withBytes [0xff]).afterFailure .bufferOverrun).response =
      some { status := .failed .bufferOverrun, rval := none } :=
  ⟨next_of_answer State.reset (by decide), rfl⟩

/-- OnlyTheBufferMatters: two states that differ in everything but the buffer, and a next state. -/
theorem witness_OnlyTheBufferMatters :
    ((State.withBytes [7]).afterFailure .outOfRange).buf = (State.withBytes [7]).buf ∧
    (answer (exec (.readUInt8 0 .strict) ((State.withBytes [7]).afterFailure .outOfRange))).isSome = true := by decide

theorem witness_StrictSuccessIsLenientSuccess :
    (run (.read 0 1 .be .unsigned .strict) [7]).map Prod.fst = some .ok ∧
    (run (.write 0 1 7 .be .unsigned .strict) [7]).map Prod.fst = some .ok := by decide

/-- The value at the safe-integer bound and the next one, both in the nominal range. -/
theorem witness_RoundTrip :
    (Instr.writeUInt64BE 9007199254740991 0 .strict).isWrite ∧ (Instr.readUInt64BE 0 .lenient).isRead ∧
    Supported 8 ∧ InRange 8 .unsigned 9007199254740991 ∧ InRange 8 .unsigned 9007199254740992 ∧
    (State.withBytes [0, 0, 0, 0, 0, 0, 0, 0]).buf.wf ∧
    RegionOK 0 8 (State.withBytes [0, 0, 0, 0, 0, 0, 0, 0]).buf.bufLen ∧
    ¬ TooLarge 9007199254740991 ∧ TooLarge 9007199254740992 := by decide

theorem witness_EmptyBufferIsLegal :
    (State.withBytes []).buf = [] ∧ Supported (Instr.readUInt8 0 .strict).fields.width ∧
    (Instr.readUInt8 0 .strict).isRead ∧ (Instr.readUInt8 0 .lenient).isRead ∧
    (Instr.writeUInt8 255 0 .strict).isWrite ∧ InRange 1 .unsigned 255 ∧ (Instr.writeUInt8 256 0 .lenient).isWrite := by
  decide

/-- MemReadRule and MemWriteRule: an address that is the last cell, and the one behind it. -/
theorem witness_MemRules :
    (Memory.ofBytes [1, 2]).wf ∧ (1 : Nat) < 3 ∧
    (0 ≤ (0 : Int) + (1 : Nat) ∧ (0 : Int) + (1 : Nat) < ((Memory.ofBytes [1, 2]).bufLen : Int)) ∧
    ¬ (0 ≤ (0 : Int) + (2 : Nat) ∧ (0 : Int) + (2 : Nat) < ((Memory.ofBytes [1, 2]).bufLen : Int)) := by decide

theorem witness_ByteStringsAreInverse : 255 < 256 ^ 1 ∧ 16777215 < 256 ^ 3 := by decide

/-- NativeWritePrimitive: both ends of what each native width accepts. -/
theorem witness_NativeWritePrimitive :
    ∀ n ∈ [1, 2, 4], -((2 ^ (8 * n - 1) : Nat) : Int) ≤ -1 ∧ (-1 : Int) ≤ ((256 ^ n : Nat) : Int) - 1 ∧
      -((2 ^ (8 * n - 1) : Nat) : Int) ≤ ((256 ^ n : Nat) : Int) - 1 := by decide

theorem witness_SplitIsFlat :
    ∀ w ∈ [3, 5, 6, 7, 8], InRange w .signed (minVal w .signed) ∧ InRange w .unsigned (maxVal w .unsigned) := by decide

/-- InvariantKept: a state with the invariant and a command waiting, and its next state. -/
theorem witness_InvariantKept :
    ((State.withBytes [7]).withFetchWord 8 0x01).Inv ∧
    step ((State.withBytes [7]).withFetchWord 8 0x01) =
      .next ((answer (step ((State.withBytes [7]).withFetchWord 8 0x01))).getD State.reset) :=
  ⟨⟨by decide, by decide, fun r h => by cases h⟩, next_of_answer _ (by decide)⟩

/-- The kinds of host event, each at the front of the host's list. -/
theorem witness_host_events :
    ({ State.reset with host := [.reset] } : State).host = .reset :: [] ∧ State.reset.host = [] ∧
    ({ State.reset with host := [.present [1, 2]] } : State).host = .present [1, 2] :: [] ∧
    ({ State.withBytes [1, 2] with host := [.store 1 9] } : State).host = .store 1 9 :: [] ∧
    ({ State.withBytes [1] with host := [.abandon ⟨0x81, 0, 5⟩] } : State).host = .abandon ⟨0x81, 0, 5⟩ :: [] ∧
    (1 : Nat) < (State.withBytes [1, 2]).buf.bufLen ∧ (State.withBytes [1, 2]).buf.bufLen ≤ 2 := by decide

/-- HostPresentsBuffer, second clause: there is a list of bytes longer than BLEN can carry. -/
theorem witness_too_long : 2147483647 < (List.replicate 2147483648 (0 : Byte)).length := by
  rw [List.length_replicate]; decide

end Sys2Proof.Machine
end

section
/-! The nominal ranges of R8: the bounds as powers of two over the integers, and the spec's full table. -/
namespace Sys2Proof.Machine

/-! ### The bounds as the spec writes them -/

@[simp] theorem minVal_unsigned (w : Nat) : minVal w .unsigned = 0 := rfl

@[simp] theorem maxVal_unsigned (w : Nat) : maxVal w .unsigned = 2 ^ (8 * w) - 1 := by
  simp only [maxVal, Nat.cast_pow, Nat.cast_ofNat]

@[simp] theorem minVal_signed (w : Nat) : minVal w .signed = -2 ^ (8 * w - 1) := by
  simp only [minVal, Nat.cast_pow, Nat.cast_ofNat]

@[simp] theorem maxVal_signed (w : Nat) : maxVal w .signed = 2 ^ (8 * w - 1) - 1 := by
  simp only [maxVal, Nat.cast_pow, Nat.cast_ofNat]

/-! ### The table -/

/-- Settles O46: each row of R8's table is the four bounds as powers of two, evaluated at the row's width. -/
theorem nominalRangeTable : Obligations.NominalRangeTable := by
  unfold Obligations.NominalRangeTable
  simp only [List.map_cons, List.map_nil, minVal_unsigned, maxVal_unsigned, minVal_signed, maxVal_signed]
  norm_num

end Sys2Proof.Machine
end

section
/-! What a command does, as a function of its fields and the buffer alone (R66 to R69): the effect of a command, and that
every instruction has exactly its effect. The conditions of a command never look at the rest of the state. -/
namespace Sys2Proof.Machine

/-! ### The effect of a command -/

/-- The four ways a command can end: a failure (R167), the value of a read (R67), the buffer a write leaves (R68), or free
bytes in the region of w cells at o (R69). -/
inductive Effect where
  | fails (f : Failure)
  | gives (x : Int)
  | stores (m : Memory)
  | draws (o : Int) (w : Nat)

/-- The state a command with this effect leaves. -/
def State.afterEffect (s : State) : Effect → State
  | .fails f => s.failWith f
  | .gives x => s.answerRead x
  | .stores m => s.answerWrite m
  | .draws o w => ({ s with draws := s.draws + w }).answerWrite (memWrite o (drawBytes s.draws w) s.buf)

/-- The effect of a read of supported width (R67). -/
def readEffect (f : Fields) (m : Memory) : Effect :=
  if f.mode = .strict ∧ ¬ RegionOK f.offset f.width m.bufLen then .fails .bufferOverrun
  else if TooLarge (decodeInt f.width f.endian f.sgn f.offset m) then .fails .integerTooLarge
  else .gives (decodeInt f.width f.endian f.sgn f.offset m)

/-- The effect of a write of supported width (R68). -/
def writeEffect (f : Fields) (m : Memory) : Effect :=
  if f.mode = .strict ∧ ¬ InRange f.width f.sgn f.value then .fails .outOfRange
  else if f.mode = .strict ∧ ¬ RegionOK f.offset f.width m.bufLen then .fails .bufferOverrun
  else if InRange f.width f.sgn f.value ∨ Saturates f.width f.sgn f.value then
    .stores (encodeInt f.width f.endian f.sgn f.offset f.value m)
  else .draws f.offset f.width

/-- The effect of a command (R66). -/
def effectOf (f : Fields) (m : Memory) : Effect :=
  if Supported f.width then
    match f.dir with
    | .read => readEffect f m
    | .write => writeEffect f m
  else .fails .unsupportedWidth

/-- A command that its mode lets reach the region passes the bounds check (R31, R32). -/
theorem passes_bounds_check {n : Mode} {p : Prop} (h : n = .lenient ∨ p) : ¬ (n = .strict ∧ ¬ p) := by
  rintro ⟨rfl, hp⟩
  exact hp (h.resolve_left (by decide))

theorem readFlow_eq_effect (f : Fields) (s : State) :
    readFlow f.width f.endian f.sgn f.mode f.offset s = .next (s.afterEffect (readEffect f s.buf)) := by
  obtain ⟨hn, hr, h⟩ | ⟨hr, hx, h⟩ | ⟨hr, hx, h⟩ := readFlow_cases f.width f.endian f.sgn f.mode f.offset s
  · rw [h, readEffect, if_pos ⟨hn, hr⟩, State.afterEffect]
  · rw [h, readEffect, if_neg (passes_bounds_check hr), if_pos hx, State.afterEffect]
  · rw [h, readEffect, if_neg (passes_bounds_check hr), if_neg hx, State.afterEffect]

theorem writeFlow_eq_effect (f : Fields) (s : State) :
    writeFlow f.width f.endian f.sgn f.mode f.offset f.value s = .next (s.afterEffect (writeEffect f s.buf)) := by
  obtain ⟨hn, hv, h⟩ | ⟨hn, hv, hr, h⟩ | ⟨⟨hn, hv, hr⟩ | ⟨hn, hv⟩, h⟩ | ⟨hn, hv, hsat, h⟩ :=
    writeFlow_cases f.width f.endian f.sgn f.mode f.offset f.value s
  · rw [h, writeEffect, if_pos ⟨hn, hv⟩, State.afterEffect]
  · rw [h, writeEffect, if_neg (fun hc => hc.2 hv), if_pos ⟨hn, hr⟩, State.afterEffect]
  · rw [h, writeEffect, if_neg (fun hc => hc.2 hv), if_neg (fun hc => hc.2 hr), if_pos (.inl hv), State.afterEffect]
  · rw [h, writeEffect, if_neg (by simp [hn]), if_neg (by simp [hn]), if_pos hv, State.afterEffect]
  · rw [h, writeEffect, if_neg (by simp [hn]), if_neg (by simp [hn]), if_neg (not_or.mpr ⟨hv, hsat⟩), State.afterEffect,
      lenientOutOfRange_eq]

/-- Every instruction answers, with its effect: a function of its own fields and the buffer. -/
theorem exec_eq_effect (i : Instr) (s : State) : exec i s = .next (s.afterEffect (effectOf i.fields s.buf)) := by
  rw [exec_eq_generic]
  cases hd : i.fields.dir <;> dsimp only
  case read =>
    obtain ⟨hw, h⟩ | ⟨hw, h⟩ :=
      genericRead_cases i.fields.width i.fields.endian i.fields.sgn i.fields.mode i.fields.offset s
    · rw [h, effectOf, if_neg hw, State.afterEffect]
    · rw [h, readFlow_eq_effect, effectOf, if_pos hw, hd]
  case write =>
    obtain ⟨hw, h⟩ | ⟨hw, h⟩ :=
      genericWrite_cases i.fields.width i.fields.endian i.fields.sgn i.fields.mode i.fields.offset i.fields.value s
    · rw [h, effectOf, if_neg hw, State.afterEffect]
    · rw [h, writeFlow_eq_effect, effectOf, if_pos hw, hd]

theorem eq_afterEffect_of_exec {i : Instr} {s t : State} (h : exec i s = .next t) :
    t = s.afterEffect (effectOf i.fields s.buf) := by
  rw [exec_eq_effect] at h
  exact (Host.Outcome.next.inj h).symm

/-- What the effect of a command can be, and what each kind says of the command. -/
theorem effectOf_cases (f : Fields) (m : Memory) :
    (∃ x, effectOf f m = .fails x) ∨
    (f.dir = .read ∧ ∃ x, ¬ TooLarge x ∧ effectOf f m = .gives x) ∨
    (f.dir = .write ∧ Supported f.width ∧
      effectOf f m = .stores (encodeInt f.width f.endian f.sgn f.offset f.value m)) ∨
    (DrawsBytes f ∧ effectOf f m = .draws f.offset f.width) := by
  by_cases hw : Supported f.width
  case neg => exact .inl ⟨.unsupportedWidth, by rw [effectOf, if_neg hw]⟩
  cases hd : f.dir
  case read =>
    have heff : effectOf f m = readEffect f m := by rw [effectOf, if_pos hw, hd]
    rw [heff, readEffect]
    split_ifs with hr hx
    · exact .inl ⟨_, rfl⟩
    · exact .inl ⟨_, rfl⟩
    · exact .inr (.inl ⟨rfl, _, hx, rfl⟩)
  case write =>
    have heff : effectOf f m = writeEffect f m := by rw [effectOf, if_pos hw, hd]
    rw [heff, writeEffect]
    split_ifs with hv hr hs
    · exact .inl ⟨_, rfl⟩
    · exact .inl ⟨_, rfl⟩
    · exact .inr (.inr (.inl ⟨rfl, hw, rfl⟩))
    · obtain ⟨hout, hsat⟩ := not_or.mp hs
      have hmode : f.mode = .lenient := by
        cases hn : f.mode
        · exact absurd ⟨hn, hout⟩ hv
        · rfl
      exact .inr (.inr (.inr ⟨⟨hd, hmode, hw, hout, hsat⟩, rfl⟩))

/-! ### What an effect does not depend on -/

/-- The response a command with this effect leaves. -/
def Effect.response : Effect → Response
  | .fails f => ⟨.failed f, none⟩
  | .gives x => ⟨.ok, some (BitVec.ofInt 64 x)⟩
  | .stores _ => ⟨.ok, none⟩
  | .draws _ _ => ⟨.ok, none⟩

@[simp] theorem afterEffect_response (s : State) (e : Effect) : (s.afterEffect e).response = some e.response := by
  cases e <;> rfl

@[simp] theorem afterEffect_host (s : State) (e : Effect) : (s.afterEffect e).host = s.host := by
  cases e <;> rfl

/-- Settles O34: the effect is the same in both states, and only free bytes depend on more than the buffer. -/
theorem onlyTheBufferMatters : Obligations.OnlyTheBufferMatters := by
  unfold Obligations.OnlyTheBufferMatters
  intro i s s' t hbuf ht
  refine ⟨s'.afterEffect (effectOf i.fields s.buf), hbuf ▸ exec_eq_effect i s', ?_, fun hdraws => ?_⟩
  · rw [eq_afterEffect_of_exec ht, afterEffect_response, afterEffect_response]
  · rw [eq_afterEffect_of_exec ht]
    obtain ⟨x, h⟩ | ⟨-, x, -, h⟩ | ⟨-, -, h⟩ | ⟨hd, -⟩ := effectOf_cases i.fields s.buf
    · rw [h]; exact hbuf.symm
    · rw [h]; exact hbuf.symm
    · rw [h]; rfl
    · exact absurd hd hdraws

end Sys2Proof.Machine
end

section
/-! The cells a write reaches (R26, R33): every codec leaves the cells outside its region as they were. -/
namespace Sys2Proof.Machine

theorem cellAt_memWrite_outside (o a : Int) (c : List Byte) (m : Memory) (h : ¬ InRegion o c.length a) :
    cellAt (memWrite o c m) a = cellAt m a := by
  induction c generalizing o m with
  | nil => rfl
  | cons b bs ih =>
    rw [List.length_cons] at h
    have hrest : ¬ InRegion (o + 1) bs.length a := by omega
    have hfirst : a ≠ o := by omega
    rw [memWrite, ih _ _ hrest, cellAt_putByte, if_neg hfirst]

theorem cellAt_natWrite_outside (o a : Int) (n : Nat) (e : Endian) (x : Int) (m : Memory) (h : ¬ InRegion o n a) :
    cellAt (natWrite o n e x m) a = cellAt m a :=
  cellAt_memWrite_outside o a _ m (by rwa [length_bytesOf])

/-- The two parts of a composite width make up the whole of it (R109). -/
theorem highWidth_add_lowWidth {w : Nat} (hw : Supported w) (hn : ¬ NativeWidth w) : highWidth w + lowWidth w = w := by
  obtain ⟨h1, h8⟩ := hw
  interval_cases w <;> simp_all [highWidth, lowWidth]

/-- The region of the low part lies in the region of the whole (R109). -/
theorem inRegion_of_inRegion_low {w : Nat} (h : highWidth w + lowWidth w = w) {o a : Int} (e : Endian)
    (ha : InRegion (lowAddr o w e) (lowWidth w) a) : InRegion o w a := by
  cases e <;> simp only [lowAddr] at ha <;> omega

/-- The region of the high part lies in the region of the whole (R109). -/
theorem inRegion_of_inRegion_high {w : Nat} (h : highWidth w + lowWidth w = w) {o a : Int} (e : Endian)
    (ha : InRegion (highAddr o w e) (highWidth w) a) : InRegion o w a := by
  cases e <;> simp only [highAddr] at ha <;> omega

theorem cellAt_encode3_outside (e : Endian) (o v a : Int) (m : Memory) (h : ¬ InRegion o 3 a) :
    cellAt (encode3 e o v m) a = cellAt m a := by
  have hlow : ¬ InRegion (lowAddr o 3 e) 2 a := mt (inRegion_of_inRegion_low (w := 3) rfl e) h
  have hhigh : ¬ InRegion (highAddr o 3 e) 1 a := mt (inRegion_of_inRegion_high (w := 3) rfl e) h
  rw [encode3, cellAt_natWrite_outside _ _ _ _ _ _ hlow, cellAt_natWrite_outside _ _ _ _ _ _ hhigh]

theorem cellAt_writeHigh_outside (o a : Int) (k : Nat) (e : Endian) (x : Int) (m : Memory) (h : ¬ InRegion o k a) :
    cellAt (writeHigh o k e x m) a = cellAt m a := by
  unfold writeHigh
  split
  case isTrue hk => subst hk; exact cellAt_encode3_outside e o x a m h
  case isFalse => exact cellAt_natWrite_outside o a k e x m h

theorem cellAt_encodeSplit_outside {w : Nat} (hsum : highWidth w + lowWidth w = w) (e : Endian) (o v a : Int)
    (m : Memory) (h : ¬ InRegion o w a) : cellAt (encodeSplit w e o v m) a = cellAt m a := by
  have hlow := mt (inRegion_of_inRegion_low hsum e) h
  have hhigh := mt (inRegion_of_inRegion_high hsum e) h
  rw [encodeSplit, cellAt_natWrite_outside _ _ _ _ _ _ hlow, cellAt_writeHigh_outside _ _ _ _ _ _ hhigh]

/-- A write changes no cell outside its region, whichever of the three codecs it takes (R33). -/
theorem cellAt_encodeInt_outside {w : Nat} (hw : Supported w) (e : Endian) (sg : Signedness) (o v a : Int) (m : Memory)
    (h : ¬ InRegion o w a) : cellAt (encodeInt w e sg o v m) a = cellAt m a := by
  unfold encodeInt
  split_ifs with hn hsat
  · exact cellAt_natWrite_outside o a w e v m h
  · exact cellAt_memWrite_outside o a _ m (by rwa [length_maxPattern hw.1])
  · exact cellAt_encodeSplit_outside (highWidth_add_lowWidth hw hn) e o v a m h

end Sys2Proof.Machine
end

section
/-! What every command keeps: the frame of all seventy instructions, and the invariant along every step. -/
namespace Sys2Proof.Machine

/-! ### Commands -/

/-- No command changes the number of cells (R16). -/
theorem exec_bufLen {i : Instr} {s t : State} (h : exec i s = .next t) : t.buf.bufLen = s.buf.bufLen := by
  rw [eq_afterEffect_of_exec h]
  obtain ⟨x, he⟩ | ⟨-, x, -, he⟩ | ⟨-, -, he⟩ | ⟨-, he⟩ := effectOf_cases i.fields s.buf <;> rw [he]
  · rfl
  · rfl
  · exact bufLen_encodeInt _ _ _ _ _ _
  · exact bufLen_memWrite _ _ _

theorem exec_host {i : Instr} {s t : State} (h : exec i s = .next t) : t.host = s.host := by
  rw [eq_afterEffect_of_exec h, afterEffect_host]

/-- A read changes no cell (R45). -/
theorem exec_buf_of_isRead {i : Instr} {s t : State} (h : exec i s = .next t) (hi : i.isRead) : t.buf = s.buf := by
  rw [eq_afterEffect_of_exec h]
  obtain ⟨x, he⟩ | ⟨-, x, -, he⟩ | ⟨hdir, -, -⟩ | ⟨⟨hdir, -⟩, -⟩ := effectOf_cases i.fields s.buf
  · rw [he]; rfl
  · rw [he]; rfl
  · rw [hi] at hdir; cases hdir
  · rw [hi] at hdir; cases hdir

/-- No command changes a cell outside its region (R20, R33). -/
theorem exec_cellAt_outside {i : Instr} {s t : State} (h : exec i s = .next t) {a : Int}
    (ha : ¬ InRegion i.fields.offset i.fields.width a) : cellAt t.buf a = cellAt s.buf a := by
  rw [eq_afterEffect_of_exec h]
  obtain ⟨x, he⟩ | ⟨-, x, -, he⟩ | ⟨-, hw, he⟩ | ⟨-, he⟩ := effectOf_cases i.fields s.buf <;> rw [he]
  · rfl
  · rfl
  · exact cellAt_encodeInt_outside hw _ _ _ _ a s.buf ha
  · exact cellAt_memWrite_outside _ a _ s.buf (by rwa [length_drawBytes])

/-- Free bytes are used by the writes of R69 only. -/
theorem exec_draws {i : Instr} {s t : State} (h : exec i s = .next t) (hi : ¬ DrawsBytes i.fields) :
    t.draws = s.draws := by
  rw [eq_afterEffect_of_exec h]
  obtain ⟨x, he⟩ | ⟨-, x, -, he⟩ | ⟨-, -, he⟩ | ⟨hdraws, -⟩ := effectOf_cases i.fields s.buf
  · rw [he]; rfl
  · rw [he]; rfl
  · rw [he]; rfl
  · exact absurd hdraws hi

/-- Settles O29: the five parts of the frame, each a lemma about every instruction. -/
theorem commandFrame : Obligations.CommandFrame := by
  unfold Obligations.CommandFrame
  exact fun _ _ _ h =>
    ⟨exec_bufLen h, exec_host h, exec_buf_of_isRead h, fun _ => exec_cellAt_outside h, exec_draws h⟩

/-- Every command keeps the canonical form of the buffer (R16). -/
theorem exec_wf {i : Instr} {s t : State} (h : exec i s = .next t) (hs : s.buf.wf) : t.buf.wf := by
  rw [eq_afterEffect_of_exec h]
  obtain ⟨x, he⟩ | ⟨-, x, -, he⟩ | ⟨-, -, he⟩ | ⟨-, he⟩ := effectOf_cases i.fields s.buf <;> rw [he]
  · exact hs
  · exact hs
  · exact wf_encodeInt hs _ _ _ _ _
  · exact wf_memWrite hs _ _

/-- A value within the safe-integer bound stands on the 64-bit port RVAL as itself (R53). -/
theorem toInt_ofInt_of_not_tooLarge {x : Int} (h : ¬ TooLarge x) : (BitVec.ofInt 64 x).toInt = x := by
  simp only [TooLarge, Config.maxSafe, not_or, not_lt] at h
  rw [BitVec.toInt_ofInt, Int.bmod_eq_of_le] <;> omega

/-- A response without RVAL is good (R53). -/
theorem good_of_rval_eq_none {r : Response} (h : r.rval = none) : r.good :=
  ⟨fun _ => h, fun x hx => by simp [Response.value, h] at hx⟩

/-- The answer of a read whose value has passed the guard is good (R116). -/
theorem good_of_not_tooLarge {x : Int} (h : ¬ TooLarge x) : (Effect.gives x).response.good := by
  refine ⟨fun hne => absurd rfl hne, fun y hy => ?_⟩
  have hxy : x = y := by
    simpa [Effect.response, Response.value, toInt_ofInt_of_not_tooLarge h] using hy
  subst hxy
  simpa only [TooLarge, not_or, gt_iff_lt, not_lt, and_comm] using h

/-- Every command answers with a good response (R53, R116). -/
theorem good_response_effectOf (f : Fields) (m : Memory) : (effectOf f m).response.good := by
  obtain ⟨x, he⟩ | ⟨-, x, hx, he⟩ | ⟨-, -, he⟩ | ⟨-, he⟩ := effectOf_cases f m <;> rw [he]
  · exact good_of_rval_eq_none rfl
  · exact good_of_not_tooLarge hx
  · exact good_of_rval_eq_none rfl
  · exact good_of_rval_eq_none rfl

/-! ### The invariant -/

/-- The invariant where no response stands on the ports: it is about the buffer only. -/
theorem inv_of_no_response {s : State} (hwf : s.buf.wf) (hlen : s.buf.bufLen ≤ Config.maxBufLen)
    (hr : s.response = none) : s.Inv :=
  ⟨hwf, hlen, fun r h => by rw [hr] at h; cases h⟩

theorem exec_keeps_inv {i : Instr} {s t : State} (hs : s.Inv) (h : exec i s = .next t) : t.Inv := by
  obtain ⟨hwf, hlen, -⟩ := hs
  refine ⟨exec_wf h hwf, exec_bufLen h ▸ hlen, fun r hr => ?_⟩
  rw [eq_afterEffect_of_exec h, afterEffect_response, Option.some.injEq] at hr
  exact hr ▸ good_response_effectOf i.fields s.buf

theorem hostPresent_keeps_inv {c : List Byte} {s t : State} (hr : s.response = none)
    (h : hostPresent c s = .next t) : t.Inv := by
  obtain ⟨hc, heq⟩ | ⟨-, heq⟩ := hostPresent_cases c s <;> rw [heq] at h <;> cases h
  exact inv_of_no_response (wf_ofBytes c) (by rwa [bufLen_ofBytes]) hr

theorem hostStore_keeps_inv {k : Nat} {b : Byte} {s t : State} (hs : s.Inv) (h : hostStore k b s = .next t) :
    t.Inv := by
  obtain ⟨hwf, hlen, hgood⟩ := hs
  obtain ⟨-, heq⟩ | ⟨-, heq⟩ := hostStore_cases k b s <;> rw [heq] at h <;> cases h
  exact ⟨wf_put hwf k b, by rwa [bufLen_put], hgood⟩

theorem hostReset_keeps_inv {s t : State} (hs : s.Inv) (h : hostReset s = .next t) : t.Inv := by
  obtain ⟨hwf, hlen, -⟩ := hs
  cases h
  exact inv_of_no_response hwf hlen rfl

theorem abandonCommand_keeps_inv {i : Instr} {s t : State} (hs : s.Inv)
    (h : abandonCommand (exec i s) s = .next t) : t.Inv := by
  obtain ⟨hwf, hlen, -⟩ := hs
  have hexec := exec_eq_effect i s
  have hcells := exec_bufLen hexec
  rw [hexec, abandonCommand_next] at h
  cases h
  exact inv_of_no_response (wf_settle hwf hcells _) ((length_settle hcells _).trans_le hlen) rfl

theorem takeEvent_keeps_inv (ev : HostEvent) {s t : State} (hs : s.Inv) (hr : s.response = none)
    (h : takeEvent ev s = .next t) : t.Inv := by
  cases ev with
  | command r => exact exec_keeps_inv hs h
  | present c => exact hostPresent_keeps_inv hr h
  | store k b => exact hostStore_keeps_inv hs h
  | reset => exact hostReset_keeps_inv hs h
  | abandon r => exact abandonCommand_keeps_inv hs h

/-- Settles O48: the host's event decides; each keeps the invariant from the state in which no response is shown. -/
theorem invariantKept : Obligations.InvariantKept := by
  unfold Obligations.InvariantKept
  intro s t hs h
  obtain ⟨hwf, hlen, -⟩ := hs
  cases hhost : s.host with
  | nil =>
    rw [step_of_idle hhost] at h
    cases h
    exact inv_of_no_response hwf hlen rfl
  | cons ev rest =>
    rw [step_of_event hhost] at h
    have hbefore : (s.afterEvent rest).Inv := inv_of_no_response hwf hlen rfl
    exact takeEvent_keeps_inv ev hbefore (afterEvent_response s rest) h

/-! ### Reset and idling -/

/-- Settles O49: the reset state has no cell and no response. -/
theorem invariantAtReset : Obligations.InvariantAtReset :=
  inv_of_no_response (by rw [reset_buf]; rfl) (by rw [reset_buf]; exact Nat.zero_le _) reset_response

/-- Settles O50. -/
theorem resetState : Obligations.ResetState :=
  ⟨reset_response, by rw [reset_buf]; rfl, reset_draws, reset_host⟩

/-- Settles O51: both events run their own operation, which takes the response off the ports. -/
theorem resetAndIdleTouchNothing : Obligations.ResetAndIdleTouchNothing := by
  unfold Obligations.ResetAndIdleTouchNothing
  intro rest s
  refine ⟨fun h => ?_, fun h => ?_⟩
  · rw [step_of_event h]; rfl
  · rw [step_of_idle h]; rfl

/-! ### The host presents a buffer -/

/-- Where the listed indices rise by one from j, the cell at index j + k is the k-th of the list. -/
theorem find_of_map_fst_eq_range' {m : Memory} {j : Nat} (h : m.map Prod.fst = List.range' j m.length) (k : Nat) :
    m.find (j + k) = m[k]?.map Prod.snd := by
  induction m generalizing j k with
  | nil => rfl
  | cons c cs ih =>
    rw [List.map_cons, List.length_cons, List.range'_succ, List.cons.injEq] at h
    obtain ⟨hc, hcs⟩ := h
    cases k with
    | zero => simp [Memory.find, hc]
    | succ k =>
      have hne : c.1 ≠ j + (k + 1) := by omega
      rw [Memory.find, if_neg hne, List.getElem?_cons_succ, ← ih hcs k]
      congr 1
      omega

/-- The cell at index k of a canonical buffer is the k-th of its list (R19). -/
theorem find_of_wf {m : Memory} (h : m.wf) (k : Nat) : m.find k = m[k]?.map Prod.snd := by
  rw [Memory.wf, List.range_eq_range'] at h
  simpa using find_of_map_fst_eq_range' h k

theorem cellAt_ofBytes (bs : List Byte) (k : Nat) : cellAt (Memory.ofBytes bs) (k : Int) = bs[k]? := by
  have hbytes : (Memory.ofBytes bs).map Prod.snd = bs := by simp [Memory.ofBytes, List.map_snd_zip]
  rw [cellAt, if_pos (Int.natCast_nonneg k), Int.toNat_natCast, find_of_wf (wf_ofBytes bs), ← List.getElem?_map, hbytes]

/-- Settles O53: the buffer presented is the list of its bytes, and the length test decides. -/
theorem hostPresentsBuffer : Obligations.HostPresentsBuffer := by
  unfold Obligations.HostPresentsBuffer
  intro bs rest s hs
  have hstep : step s = hostPresent bs (s.afterEvent rest) := step_of_event hs
  rw [hstep]
  refine ⟨fun hlen => ?_, fun hlen => ?_⟩
  · exact ⟨_, if_pos hlen, wf_ofBytes bs, bufLen_ofBytes bs, cellAt_ofBytes bs, rfl, rfl, rfl⟩
  · exact if_neg (Nat.not_le.mpr hlen)

end Sys2Proof.Machine
end

section
/-! The buffer's primitives (R25, R26, R38): what each byte of a string read is, where each byte of a string written lands,
and the host's store of one cell. -/
namespace Sys2Proof.Machine

/-! ### Bytes read -/

/-- An address outside a canonical buffer reads as zero (R25). -/
theorem byteAt_of_outside {m : Memory} (h : m.wf) {a : Int} (ha : ¬ (0 ≤ a ∧ a < (m.bufLen : Int))) :
    byteAt m a = 0#8 := by
  rw [byteAt, (cellAt_eq_none_iff h a).mpr ha, Option.getD_none]

/-- An address inside a canonical buffer reads as its cell (R25). -/
theorem cellAt_eq_some_byteAt {m : Memory} (h : m.wf) {a : Int} (ha : 0 ≤ a ∧ a < (m.bufLen : Int)) :
    cellAt m a = some (byteAt m a) := by
  obtain ⟨b, hb⟩ := Option.isSome_iff_exists.mp ((cellAt_isSome_iff h a).mpr ha)
  rw [byteAt, hb, Option.getD_some]

theorem getElem?_memRead (m : Memory) (a : Int) {n i : Nat} (hi : i < n) :
    (memRead a n m)[i]? = some (byteAt m (a + (i : Int))) := by
  simp [memRead, hi]

/-- Regions with the same bytes read as the same string. -/
theorem memRead_congr {a a' : Int} {n : Nat} {m m' : Memory}
    (h : ∀ i : Nat, i < n → byteAt m' (a' + (i : Int)) = byteAt m (a + (i : Int))) : memRead a' n m' = memRead a n m :=
  List.map_congr_left fun i hi => h i (List.mem_range.mp hi)

/-- A region with the bytes in reverse reads as the string reversed (R22). -/
theorem memRead_eq_reverse {a : Int} {n : Nat} {m m' : Memory}
    (h : ∀ i : Nat, i < n → byteAt m' (a + (i : Int)) = byteAt m (a + (n : Int) - 1 - (i : Int))) :
    memRead a n m' = (memRead a n m).reverse := by
  refine List.ext_getElem (by simp) fun i hi hi' => ?_
  rw [length_memRead] at hi
  simp only [memRead, List.getElem_reverse, List.getElem_map, List.getElem_range, List.length_map, List.length_range,
    h i hi]
  congr 1
  omega

/-- A region that reads as zero everywhere reads as a string of zeros. -/
theorem memRead_eq_replicate_zero {a : Int} {n : Nat} {m : Memory}
    (h : ∀ i : Nat, i < n → byteAt m (a + (i : Int)) = 0#8) : memRead a n m = List.replicate n 0#8 := by
  rw [List.eq_replicate_iff]
  refine ⟨length_memRead a n m, fun b hb => ?_⟩
  obtain ⟨i, hi, rfl⟩ := List.mem_map.mp hb
  exact h i (List.mem_range.mp hi)

/-- A string read is the string of its first bytes and then that of the others. -/
theorem memRead_add (a : Int) (k n : Nat) (m : Memory) :
    memRead a (k + n) m = memRead a k m ++ memRead (a + (k : Int)) n m := by
  simp only [memRead, List.range_add, List.map_append, List.map_map, Function.comp_def, Nat.cast_add, add_assoc]

/-- Settles O38: a byte of the string is the byte at its address, which is the cell inside the buffer and zero outside. -/
theorem memReadRule : Obligations.MemReadRule := by
  unfold Obligations.MemReadRule
  intro m a n i hwf hi
  rw [getElem?_memRead m a hi]
  refine ⟨length_memRead a n m, fun hin => (cellAt_eq_some_byteAt hwf hin).symm, fun hout => ?_⟩
  rw [byteAt_of_outside hwf hout]

/-! ### Bytes written -/

/-- The i-th byte of a string written lands in the i-th cell of its region, if that is a cell (R26). -/
theorem cellAt_memWrite_of_getElem? {bs : List Byte} {i : Nat} {b : Byte} (h : bs[i]? = some b) (o : Int) (m : Memory) :
    cellAt (memWrite o bs m) (o + (i : Int)) = (cellAt m (o + (i : Int))).map fun _ => b := by
  induction bs generalizing o i m with
  | nil => simp at h
  | cons d ds ih =>
    cases i with
    | zero =>
      have hd : d = b := by simpa using h
      have hout : ¬ InRegion (o + 1) ds.length o := by omega
      rw [Nat.cast_zero, add_zero, memWrite, cellAt_memWrite_outside _ _ _ _ hout, cellAt_putByte, if_pos rfl, hd]
    | succ i =>
      have haddr : o + ((i + 1 : Nat) : Int) = o + 1 + (i : Int) := by push_cast; ring
      have hne : o + 1 + (i : Int) ≠ o := by omega
      rw [haddr, memWrite, ih (by simpa using h), cellAt_putByte, if_neg hne]

/-- Settles O39: outside the region nothing changes; inside it each byte lands in its own cell, if there is one. -/
theorem memWriteRule : Obligations.MemWriteRule := by
  unfold Obligations.MemWriteRule
  intro m a k bs hwf
  refine ⟨bufLen_memWrite a bs m, ?_⟩
  by_cases hreg : InRegion a bs.length k
  case neg => rw [if_neg fun h => hreg h.1, cellAt_memWrite_outside a k bs m hreg]
  case pos =>
    by_cases hin : 0 ≤ k ∧ k < (m.bufLen : Int)
    · have hlt : (k - a).toNat < bs.length := by omega
      have hstore := cellAt_memWrite_of_getElem? (List.getElem?_eq_getElem hlt) a m
      have hk : a + ((k - a).toNat : Int) = k := by omega
      rw [hk, cellAt_eq_some_byteAt hwf hin, Option.map_some] at hstore
      rw [if_pos ⟨hreg, hin⟩, hstore, List.getElem?_eq_getElem hlt]
    · have hnone := (cellAt_eq_none_iff hwf k).mpr hin
      rw [if_neg fun h => hin h.2, hnone, cellAt_eq_none_iff (wf_memWrite hwf a bs), bufLen_memWrite]
      exact hin

/-! ### The host's store -/

theorem putByte_natCast (m : Memory) (k : Nat) (b : Byte) : putByte m (k : Int) b = m.put k b := by
  rw [putByte, if_pos (Int.natCast_nonneg k), Int.toNat_natCast]

/-- Settles O54: the host's store is one store into one cell, and the index test decides. -/
theorem hostStoresOneCell : Obligations.HostStoresOneCell := by
  unfold Obligations.HostStoresOneCell
  intro k b rest s hs hwf
  have hstep : step s = hostStore k b (s.afterEvent rest) := step_of_event hs
  rw [hstep]
  refine ⟨fun hk => ?_, fun hk => if_neg (Nat.not_lt.mpr hk)⟩
  refine ⟨_, if_pos hk, bufLen_put s.buf k b, fun a => ?_, rfl, rfl, rfl⟩
  have hcell : cellAt s.buf (k : Int) = some (byteAt s.buf k) :=
    cellAt_eq_some_byteAt hwf ⟨Int.natCast_nonneg k, by exact_mod_cast hk⟩
  have hput := cellAt_putByte s.buf k a b
  rwa [hcell, Option.map_some, putByte_natCast] at hput

end Sys2Proof.Machine
end

section
/-! The two byte orders and the native primitives (R23, R24, R27 to R29): the value of a string put together from its parts,
`Bytes` and the value inverse to each other, sign extension in its range, and the bytes of a two's-complement pattern. -/
namespace Sys2Proof.Machine

/-! ### The value of a byte string -/

theorem uLE_lt (c : List Byte) : uLE c < 256 ^ c.length := by
  induction c with
  | nil => simp [uLE]
  | cons b bs ih =>
    have hb : b.toNat < 256 := b.isLt
    rw [uLE, List.length_cons, pow_succ]
    omega

/-- The value of n bytes is below 256^n (R23). -/
theorem uBytes_lt (e : Endian) (c : List Byte) : uBytes e c < 256 ^ c.length := by
  cases e
  · simpa [uBytes, uBE] using uLE_lt c.reverse
  · exact uLE_lt c

theorem uLE_append (c d : List Byte) : uLE (c ++ d) = uLE c + 256 ^ c.length * uLE d := by
  induction c with
  | nil => simp [uLE]
  | cons b bs ih => rw [List.cons_append, uLE, uLE, ih, List.length_cons, pow_succ]; ring

theorem uLE_replicate_zero (n : Nat) : uLE (List.replicate n 0#8) = 0 := by
  induction n with
  | zero => rfl
  | succ n ih => rw [List.replicate_succ, uLE, ih]; rfl

theorem uBytes_replicate_zero (e : Endian) (n : Nat) : uBytes e (List.replicate n 0#8) = 0 := by
  cases e
  · rw [uBytes, uBE, List.reverse_replicate, uLE_replicate_zero]
  · exact uLE_replicate_zero n

/-- One byte has the same value in both orders (R27). -/
theorem uBytes_singleton (e : Endian) (b : Byte) : uBytes e [b] = b.toNat := by
  cases e <;> simp [uBytes, uBE, uLE]

/-! ### `Bytes` and the value are inverse to each other -/

theorem bytesLE_succ (n u : Nat) : bytesLE (n + 1) u = BitVec.ofNat 8 u :: bytesLE n (u / 256) := by
  have hdiv (i : Nat) : u / 256 ^ (i + 1) = u / 256 / 256 ^ i := by rw [pow_succ', Nat.div_div_eq_div_mul]
  simp [bytesLE, List.range_succ_eq_map, Function.comp_def, hdiv]

theorem uLE_bytesLE {n u : Nat} (h : u < 256 ^ n) : uLE (bytesLE n u) = u := by
  induction n generalizing u with
  | zero =>
    rw [pow_zero, Nat.lt_one_iff] at h
    rw [h]
    rfl
  | succ n ih =>
    rw [pow_succ] at h
    rw [bytesLE_succ, uLE, ih (by omega), BitVec.toNat_ofNat]
    omega

theorem bytesLE_uLE (c : List Byte) : bytesLE c.length (uLE c) = c := by
  induction c with
  | nil => rfl
  | cons b bs ih =>
    have hb : b.toNat < 256 := b.isLt
    have hlow : BitVec.ofNat 8 (b.toNat + 256 * uLE bs) = b := by
      apply BitVec.eq_of_toNat_eq
      rw [BitVec.toNat_ofNat]
      omega
    have hhigh : (b.toNat + 256 * uLE bs) / 256 = uLE bs := by omega
    rw [List.length_cons, uLE, bytesLE_succ, hlow, hhigh, ih]

theorem uBytes_bytesOf (e : Endian) {n u : Nat} (h : u < 256 ^ n) : uBytes e (bytesOf e n u) = u := by
  cases e
  · rw [uBytes, uBE, bytesOf, List.reverse_reverse, uLE_bytesLE h]
  · exact uLE_bytesLE h

theorem bytesOf_uBytes (e : Endian) (c : List Byte) : bytesOf e c.length (uBytes e c) = c := by
  cases e
  · rw [uBytes, uBE, bytesOf, ← List.length_reverse, bytesLE_uLE, List.reverse_reverse]
  · exact bytesLE_uLE c

/-- Settles O40: the little-endian facts, and the big-endian ones by reversal. -/
theorem byteStringsAreInverse : Obligations.ByteStringsAreInverse :=
  fun e _ _ c => ⟨uBytes_bytesOf e, bytesOf_uBytes e c, uBytes_lt e c, rfl⟩

/-! ### Sign extension -/

theorem two_pow_eight_mul (n : Nat) : 2 ^ (8 * n) = 256 ^ n := by rw [pow_mul]; norm_num

/-- Sign extension lies in the signed range of its width (R28). -/
theorem sext_mem_range {bits v : Nat} (hbits : 1 ≤ bits) (hv : v < 2 ^ bits) :
    -((2 ^ (bits - 1) : Nat) : Int) ≤ sext bits v ∧ sext bits v ≤ ((2 ^ (bits - 1) : Nat) : Int) - 1 := by
  obtain ⟨k, rfl⟩ := Nat.exists_eq_add_of_le' hbits
  rw [Nat.add_sub_cancel, sext, Nat.add_sub_cancel, pow_succ]
  rw [pow_succ] at hv
  split <;> omega

/-- Only the high part carries the sign (R111): the low part is added after sign extension as it would be before. -/
theorem sext_mul_add {h l high low : Nat} (hh : 1 ≤ h) (hlow : low < 2 ^ l) :
    sext (h + l) (high * 2 ^ l + low) = sext h high * ((2 ^ l : Nat) : Int) + (low : Int) := by
  have hpow : 2 ^ (h + l - 1) = 2 ^ (h - 1) * 2 ^ l := by rw [← pow_add]; congr 1; omega
  have hiff : high * 2 ^ l + low < 2 ^ (h - 1) * 2 ^ l ↔ high < 2 ^ (h - 1) := by
    constructor <;> intro hlt
    · exact lt_of_mul_lt_mul_right (by omega) (Nat.zero_le (2 ^ l))
    · have := Nat.mul_le_mul_right (2 ^ l) (Nat.succ_le_of_lt hlt)
      rw [Nat.succ_mul] at this
      omega
  simp only [sext, hpow, hiff, pow_add]
  split <;> push_cast <;> ring

/-! ### The native primitives -/

theorem natReadU_one (a : Int) (e : Endian) (m : Memory) : natReadU a 1 e m = ((byteAt m a).toNat : Int) := by
  simp [natReadU, memRead, uBytes_singleton]

theorem natReadS_one (a : Int) (e : Endian) (m : Memory) : natReadS a 1 e m = sext 8 (byteAt m a).toNat := by
  simp [natReadS, memRead, uBytes_singleton]

theorem uBytes_memRead_lt (e : Endian) (a : Int) (n : Nat) (m : Memory) : uBytes e (memRead a n m) < 256 ^ n := by
  simpa using uBytes_lt e (memRead a n m)

/-- Settles O41: the ranges are those of a string of n bytes and of its sign extension. -/
theorem nativeReadPrimitives : Obligations.NativeReadPrimitives := by
  unfold Obligations.NativeReadPrimitives
  intro a n e m hn
  have hlt := uBytes_memRead_lt e a n m
  have hmax : natReadU a n e m ≤ ((256 ^ n : Nat) : Int) - 1 := by rw [natReadU]; omega
  obtain ⟨hlo, hhi⟩ : -((2 ^ (8 * n - 1) : Nat) : Int) ≤ natReadS a n e m ∧
      natReadS a n e m ≤ ((2 ^ (8 * n - 1) : Nat) : Int) - 1 :=
    sext_mem_range (by omega) (by rwa [two_pow_eight_mul])
  refine ⟨rfl, Int.natCast_nonneg _, hmax, rfl, hlo, hhi, ?_, ?_⟩
  · rw [natReadU_one, natReadU_one]
  · rw [natReadS_one, natReadS_one]

theorem patternOf_of_nonneg {n : Nat} {x : Int} (h0 : 0 ≤ x) (h : x < ((256 ^ n : Nat) : Int)) :
    patternOf n x = x.toNat := by
  rw [patternOf, Int.emod_eq_of_lt h0 h]

theorem patternOf_of_neg {n : Nat} {x : Int} (h0 : x < 0) (h : -((256 ^ n : Nat) : Int) ≤ x) :
    patternOf n x = (x + ((256 ^ n : Nat) : Int)).toNat := by
  rw [patternOf, ← Int.add_emod_right, Int.emod_eq_of_lt (by omega) (by omega)]

/-- Settles O42: the pattern of a value the native write accepts is the value itself, or the value plus 256^n. -/
theorem nativeWritePrimitive : Obligations.NativeWritePrimitive := by
  unfold Obligations.NativeWritePrimitive
  intro a x n e m _ hlo hhi
  have hhalf : 2 ^ (8 * n - 1) ≤ 256 ^ n := two_pow_eight_mul n ▸ Nat.pow_le_pow_right (by omega) (Nat.sub_le _ _)
  refine ⟨fun h0 => ?_, fun h0 => ?_⟩
  · rw [natWrite, patternOf_of_nonneg h0 (by omega)]
  · rw [natWrite, patternOf_of_neg h0 (by omega)]

end Sys2Proof.Machine
end

section
/-! Reads (R22, R25, R32, R34): the split of a composite width reads what the whole region reads (R110, R111), so a read
depends on the buffer only through the string of its region's bytes. -/
namespace Sys2Proof.Machine

/-! ### The split reads the whole region -/

theorem splitBase_eq (w : Nat) : splitBase w = ((256 ^ lowWidth w : Nat) : Int) := by
  unfold splitBase lowWidth
  split <;> rfl

theorem one_le_highWidth (w : Nat) : 1 ≤ highWidth w := by
  unfold highWidth
  split <;> decide

/-- The value of a region is put together from those of its high and its low part (R109, R115). -/
theorem uBytes_memRead_split {w : Nat} (hsum : highWidth w + lowWidth w = w) (e : Endian) (o : Int) (m : Memory) :
    uBytes e (memRead (highAddr o w e) (highWidth w) m) * 256 ^ lowWidth w +
      uBytes e (memRead (lowAddr o w e) (lowWidth w) m) = uBytes e (memRead o w m) := by
  cases e
  case be =>
    have happ := memRead_add o (highWidth w) (lowWidth w) m
    rw [hsum] at happ
    simp only [uBytes, uBE, happ, List.reverse_append, uLE_append, List.length_reverse, length_memRead, highAddr, lowAddr]
    ring
  case le =>
    have happ := memRead_add o (lowWidth w) (highWidth w) m
    rw [add_comm, hsum] at happ
    simp only [uBytes, happ, uLE_append, length_memRead, highAddr, lowAddr]
    ring

theorem joinParts_natReadU {w : Nat} (hsum : highWidth w + lowWidth w = w) (e : Endian) (o : Int) (m : Memory) :
    joinParts w (natReadU (highAddr o w e) (highWidth w) e m) (natReadU (lowAddr o w e) (lowWidth w) e m) =
      natReadU o w e m := by
  rw [joinParts, splitBase_eq, natReadU, natReadU, natReadU, ← uBytes_memRead_split hsum e o m]
  push_cast
  rfl

theorem joinParts_natReadS {w : Nat} (hsum : highWidth w + lowWidth w = w) (e : Endian) (o : Int) (m : Memory) :
    joinParts w (natReadS (highAddr o w e) (highWidth w) e m) (natReadU (lowAddr o w e) (lowWidth w) e m) =
      natReadS o w e m := by
  have hhigh := one_le_highWidth w
  have hlow := uBytes_memRead_lt e (lowAddr o w e) (lowWidth w) m
  have hbits : 8 * highWidth w + 8 * lowWidth w = 8 * w := by omega
  rw [← two_pow_eight_mul] at hlow
  have hsext := sext_mul_add (h := 8 * highWidth w) (high := uBytes e (memRead (highAddr o w e) (highWidth w) m))
    (by omega) hlow
  rw [hbits, two_pow_eight_mul, uBytes_memRead_split hsum] at hsext
  rw [joinParts, splitBase_eq, natReadS, natReadS, natReadU, hsext]

theorem readHighU_eq (a : Int) (h : Nat) (e : Endian) (m : Memory) : readHighU a h e m = natReadU a h e m := by
  unfold readHighU
  split
  case isTrue h3 => subst h3; exact joinParts_natReadU (w := 3) rfl e a m
  case isFalse => rfl

theorem readHighS_eq (a : Int) (h : Nat) (e : Endian) (m : Memory) : readHighS a h e m = natReadS a h e m := by
  unfold readHighS
  split
  case isTrue h3 => subst h3; exact joinParts_natReadS (w := 3) rfl e a m
  case isFalse => rfl

theorem decodeU_eq {w : Nat} (hsum : highWidth w + lowWidth w = w) (e : Endian) (o : Int) (m : Memory) :
    decodeU w e o m = natReadU o w e m := by
  rw [decodeU, readHighU_eq, joinParts_natReadU hsum]

theorem decodeS_eq {w : Nat} (hsum : highWidth w + lowWidth w = w) (e : Endian) (o : Int) (m : Memory) :
    decodeS w e o m = natReadS o w e m := by
  rw [decodeS, readHighS_eq, joinParts_natReadS hsum]

/-- The integer a number of w bytes stands for (R8, R27, R28). -/
def intOfBytes (w : Nat) : Signedness → Nat → Int
  | .unsigned, u => (u : Int)
  | .signed, u => sext (8 * w) u

/-- At every supported width a read decodes the string of its region's bytes (R65, R115). -/
theorem decodeInt_eq {w : Nat} (hw : Supported w) (e : Endian) (sg : Signedness) (o : Int) (m : Memory) :
    decodeInt w e sg o m = intOfBytes w sg (uBytes e (memRead o w m)) := by
  unfold decodeInt
  split_ifs with hn
  · cases sg <;> rfl
  · have hsum := highWidth_add_lowWidth hw hn
    cases sg
    · exact decodeU_eq hsum e o m
    · exact decodeS_eq hsum e o m

/-! ### What a read depends on -/

theorem effectOf_of_unsupported {f : Fields} (hw : ¬ Supported f.width) (m : Memory) :
    effectOf f m = .fails .unsupportedWidth := if_neg hw

theorem effectOf_read {f : Fields} (hw : Supported f.width) (hdir : f.dir = .read) (m : Memory) :
    effectOf f m = readEffect f m := by
  rw [effectOf, if_pos hw, hdir]

theorem effectOf_write {f : Fields} (hw : Supported f.width) (hdir : f.dir = .write) (m : Memory) :
    effectOf f m = writeEffect f m := by
  rw [effectOf, if_pos hw, hdir]

/-- Two reads of one width that meet the same bounds check and decode the same value have the same effect. -/
theorem effectOf_read_congr {f f' : Fields} {m m' : Memory} (hdir : f.dir = .read) (hdir' : f'.dir = .read)
    (hwidth : f'.width = f.width)
    (hreg : (f'.mode = .strict ∧ ¬ RegionOK f'.offset f'.width m'.bufLen) ↔
      (f.mode = .strict ∧ ¬ RegionOK f.offset f.width m.bufLen))
    (hdec : Supported f.width →
      decodeInt f'.width f'.endian f'.sgn f'.offset m' = decodeInt f.width f.endian f.sgn f.offset m) :
    effectOf f' m' = effectOf f m := by
  by_cases hw : Supported f.width
  · rw [effectOf_read hw hdir, effectOf_read (hwidth ▸ hw) hdir', readEffect, hdec hw]
    exact if_congr hreg rfl rfl
  · rw [effectOf_of_unsupported hw, effectOf_of_unsupported (hwidth ▸ hw)]

/-- Commands with the same effect give the same response. -/
theorem exec_response_congr {i i' : Instr} {s s' t : State} (heff : effectOf i'.fields s'.buf = effectOf i.fields s.buf)
    (h : exec i s = .next t) : ∃ t', exec i' s' = .next t' ∧ t'.response = t.response :=
  ⟨_, exec_eq_effect i' s', by rw [eq_afterEffect_of_exec h, heff, afterEffect_response, afterEffect_response]⟩

/-- Settles O18: the reversed region reads as the reversed string, whose little-endian value is the big-endian one. -/
theorem endiannessSymmetry : Obligations.EndiannessSymmetry := by
  unfold Obligations.EndiannessSymmetry
  intro w sg n o s s' t hw hlen hbytes h
  have hdec : decodeInt w .le sg o s'.buf = decodeInt w .be sg o s.buf := by
    rw [decodeInt_eq hw, decodeInt_eq hw, memRead_eq_reverse hbytes]
    rfl
  have hreg : (n = .strict ∧ ¬ RegionOK o w s'.buf.bufLen) ↔ (n = .strict ∧ ¬ RegionOK o w s.buf.bufLen) := by
    rw [hlen]
  have heff : effectOf (Instr.read o w .le sg n).fields s'.buf = effectOf (Instr.read o w .be sg n).fields s.buf :=
    effectOf_read_congr rfl rfl rfl hreg fun _ => hdec
  exact exec_response_congr heff h

/-- Settles O19: regions with the same bytes read as the same string. -/
theorem alignmentDoesNotMatter : Obligations.AlignmentDoesNotMatter := by
  unfold Obligations.AlignmentDoesNotMatter
  intro w e sg n o o' s s' t hfits hfits' hbytes h
  have hreg : (n = .strict ∧ ¬ RegionOK o' w s'.buf.bufLen) ↔ (n = .strict ∧ ¬ RegionOK o w s.buf.bufLen) :=
    iff_of_false (passes_bounds_check hfits') (passes_bounds_check hfits)
  have hdec (hw : Supported w) : decodeInt w e sg o' s'.buf = decodeInt w e sg o s.buf := by
    rw [decodeInt_eq hw, decodeInt_eq hw, memRead_congr hbytes]
  have heff : effectOf (Instr.read o' w e sg n).fields s'.buf = effectOf (Instr.read o w e sg n).fields s.buf :=
    effectOf_read_congr rfl rfl rfl hreg hdec
  exact exec_response_congr heff h

theorem intOfBytes_zero (w : Nat) (sg : Signedness) : intOfBytes w sg 0 = 0 := by
  cases sg
  · rfl
  · rw [intOfBytes, sext, if_pos (Nat.two_pow_pos _), Nat.cast_zero]

/-- A region that names no cell decodes to 0 (R25). -/
theorem decodeInt_of_outside {w : Nat} (hw : Supported w) (e : Endian) (sg : Signedness) {o : Int} {m : Memory}
    (hwf : m.wf) (hout : ∀ a : Int, InRegion o w a → ¬ (0 ≤ a ∧ a < (m.bufLen : Int))) : decodeInt w e sg o m = 0 := by
  have hzero : memRead o w m = List.replicate w 0#8 :=
    memRead_eq_replicate_zero fun i hi => byteAt_of_outside hwf (hout _ (by omega))
  rw [decodeInt_eq hw, hzero, uBytes_replicate_zero, intOfBytes_zero]

/-- Settles O20: a lenient read passes the bounds check, and the 0 it decodes passes the guard. -/
theorem lenientReadOutsideIsZero : Obligations.LenientReadOutsideIsZero := by
  unfold Obligations.LenientReadOutsideIsZero
  intro i s hread hw hmode hwf hout
  have heff : effectOf i.fields s.buf = .gives 0 := by
    rw [effectOf_read hw hread, readEffect, if_neg (passes_bounds_check (.inl hmode)),
      decodeInt_of_outside hw _ _ hwf hout, if_neg (by decide)]
  rw [exec_eq_effect, heff]
  rfl

end Sys2Proof.Machine
end

section
/-! Writes (R29, R33, R112, R120): the split and the saturation of a value in the nominal range store what one write of the
whole region stores, and what that leaves in each cell. -/
namespace Sys2Proof.Machine

/-! ### Two writes that do not meet -/

theorem put_put_comm (m : Memory) {j k : Nat} (h : j ≠ k) (b d : Byte) : (m.put j b).put k d = (m.put k d).put j b := by
  simp only [Memory.put, List.map_map]
  refine List.map_congr_left fun x _ => ?_
  by_cases hj : x.1 = j
  · simp [hj, h]
  · by_cases hk : x.1 = k <;> simp [hj, hk, h.symm]

theorem putByte_putByte_comm (m : Memory) {a a' : Int} (h : a ≠ a') (b d : Byte) :
    putByte (putByte m a b) a' d = putByte (putByte m a' d) a b := by
  unfold putByte
  split_ifs
  case pos => exact put_put_comm m (by omega) b d
  all_goals rfl

theorem putByte_memWrite_comm (o a : Int) (b : Byte) (bs : List Byte) (m : Memory) (h : ¬ InRegion o bs.length a) :
    putByte (memWrite o bs m) a b = memWrite o bs (putByte m a b) := by
  induction bs generalizing o m with
  | nil => rfl
  | cons d ds ih =>
    rw [List.length_cons] at h
    have hrest : ¬ InRegion (o + 1) ds.length a := by omega
    have hfirst : o ≠ a := by omega
    rw [memWrite, memWrite, ih _ _ hrest, putByte_putByte_comm m hfirst]

/-- The order of two writes whose regions do not meet is not observable (R35). -/
theorem memWrite_memWrite_comm (o o' : Int) (bs bs' : List Byte) (m : Memory) (h : o + (bs.length : Int) ≤ o') :
    memWrite o bs (memWrite o' bs' m) = memWrite o' bs' (memWrite o bs m) := by
  induction bs' generalizing o' m with
  | nil => rfl
  | cons d ds ih =>
    have hfirst : ¬ InRegion o bs.length o' := by omega
    rw [memWrite, memWrite, ih _ _ (by omega), putByte_memWrite_comm _ _ _ _ _ hfirst]

/-- A string written is its first bytes written and then the others. -/
theorem memWrite_append (o : Int) (bs bs' : List Byte) (m : Memory) :
    memWrite o (bs ++ bs') m = memWrite (o + (bs.length : Int)) bs' (memWrite o bs m) := by
  induction bs generalizing o m with
  | nil => simp [memWrite]
  | cons b bs ih =>
    have haddr : o + ((b :: bs).length : Int) = o + 1 + (bs.length : Int) := by push_cast [List.length_cons]; ring
    rw [List.cons_append, memWrite, memWrite, ih, haddr]

/-! ### The bytes of a two's-complement pattern -/

theorem emod_mul_ediv (x : Int) {b : Int} (hb : 0 < b) (d : Int) : x % (b * d) / b = x / b % d := by
  rw [Int.emod_def, Int.emod_def, mul_assoc, Int.sub_mul_ediv_left _ _ hb.ne', Int.ediv_ediv_of_nonneg hb.le]

theorem cast_patternOf (n : Nat) (x : Int) : ((patternOf n x : Nat) : Int) = x % ((256 ^ n : Nat) : Int) :=
  Int.toNat_of_nonneg (Int.emod_nonneg x (by positivity))

/-- Byte i of the pattern of x is floor(x / 256^i) mod 256, for a negative x too (R24, R29). -/
theorem bytesLE_patternOf (n : Nat) (x : Int) :
    bytesLE n (patternOf n x) = (List.range n).map fun i => BitVec.ofInt 8 (x / ((256 ^ i : Nat) : Int)) := by
  refine List.map_congr_left fun i hi => ?_
  obtain ⟨k, rfl⟩ : ∃ k, n = i + (k + 1) := Nat.exists_eq_add_of_lt (List.mem_range.mp hi)
  have hbyte : ((patternOf (i + (k + 1)) x / 256 ^ i : Nat) : Int) =
      x / ((256 ^ i : Nat) : Int) % (256 * ((256 ^ k : Nat) : Int)) := by
    rw [Int.natCast_div, cast_patternOf, pow_add, pow_succ', Nat.cast_mul, Nat.cast_mul,
      emod_mul_ediv x (by positivity), Nat.cast_ofNat]
  rw [← BitVec.ofInt_natCast, hbyte]
  apply BitVec.eq_of_toNat_eq
  rw [BitVec.toNat_ofInt, BitVec.toNat_ofInt]
  exact congrArg Int.toNat (Int.mod_mul_right_mod _ 256 _)

theorem patternOf_emod (n : Nat) (x : Int) : patternOf n (x % ((256 ^ n : Nat) : Int)) = patternOf n x := by
  rw [patternOf, patternOf, Int.emod_emod_of_dvd x dvd_rfl]

/-- The bytes of a pattern are those of the remainder and then those of the quotient (R112). -/
theorem bytesLE_patternOf_add (l h : Nat) (x : Int) :
    bytesLE (l + h) (patternOf (l + h) x) =
      bytesLE l (patternOf l (x % ((256 ^ l : Nat) : Int))) ++ bytesLE h (patternOf h (x / ((256 ^ l : Nat) : Int))) := by
  have hdiv (i : Nat) : x / ((256 ^ (l + i) : Nat) : Int) = x / ((256 ^ l : Nat) : Int) / ((256 ^ i : Nat) : Int) := by
    rw [Int.ediv_ediv_of_nonneg (by positivity), pow_add, Nat.cast_mul]
  rw [patternOf_emod]
  simp only [bytesLE_patternOf, List.range_add, List.map_append, List.map_map, Function.comp_def, hdiv]

/-! ### The split writes the whole region -/

/-- The low and the high part of a value, each written in its own part of the region, are the value written in the whole
region (R112, R115). -/
theorem natWrite_natWrite_split {w : Nat} (hsum : highWidth w + lowWidth w = w) (e : Endian) (o v : Int) (m : Memory) :
    natWrite (lowAddr o w e) (lowWidth w) e (lowPart w v)
      (natWrite (highAddr o w e) (highWidth w) e (highPart w v) m) = natWrite o w e v m := by
  have hbytes := bytesLE_patternOf_add (lowWidth w) (highWidth w) v
  rw [add_comm, hsum, ← splitBase_eq] at hbytes
  cases e
  case be =>
    simp only [natWrite, bytesOf, lowAddr, highAddr, lowPart, highPart, hbytes, List.reverse_append, memWrite_append,
      List.length_reverse, length_bytesLE]
  case le =>
    simp only [natWrite, bytesOf, lowAddr, highAddr, lowPart, highPart, hbytes, memWrite_append, length_bytesLE]
    exact memWrite_memWrite_comm _ _ _ _ _ (by rw [length_bytesLE])

theorem writeHigh_eq (a : Int) (h : Nat) (e : Endian) (x : Int) (m : Memory) : writeHigh a h e x m = natWrite a h e x m := by
  unfold writeHigh
  split
  case isTrue h3 => subst h3; exact natWrite_natWrite_split (w := 3) rfl e a x m
  case isFalse => rfl

theorem encodeSplit_eq {w : Nat} (hsum : highWidth w + lowWidth w = w) (e : Endian) (o v : Int) (m : Memory) :
    encodeSplit w e o v m = natWrite o w e v m := by
  rw [encodeSplit, writeHigh_eq, natWrite_natWrite_split hsum]

/-- The literal pattern of the saturation is the bytes of the maximum (R120). -/
theorem maxPattern_eq {w : Nat} (hw : w = 7 ∨ w = 8) (e : Endian) (sg : Signedness) :
    maxPattern w e sg = bytesOf e w (patternOf w (maxVal w sg)) := by
  obtain rfl | rfl := hw <;> cases e <;> cases sg <;> decide

/-- A write of a value in the nominal range stores its pattern in the whole region, whichever codec it takes. -/
theorem encodeInt_eq {w : Nat} (hw : Supported w) (e : Endian) {sg : Signedness} (o : Int) {v : Int} (m : Memory)
    (hv : InRange w sg v) : encodeInt w e sg o v m = natWrite o w e v m := by
  unfold encodeInt
  split_ifs with hn hsat
  · rfl
  · have hmax : v = maxVal w sg := le_antisymm hv.2 hsat.2
    rw [maxPattern_eq (by omega), ← hmax, natWrite]
  · exact encodeSplit_eq (highWidth_add_lowWidth hw hn) e o v m

/-! ### What a write leaves in a cell -/

/-- The byte at index i of the string a write of v stores (R24, R29). -/
theorem getElem?_bytesOf_patternOf {w i : Nat} (hi : i < w) (e : Endian) (o v : Int) :
    (bytesOf e w (patternOf w v))[i]? = some (storedByte w e o v (o + (i : Int))) := by
  cases e
  case be =>
    have hsig : significanceAt o w .be (o + (i : Int)) = w - 1 - i := by simp only [significanceAt]; omega
    have hlt : w - 1 - i < w := by omega
    rw [bytesOf, List.getElem?_reverse (by rwa [length_bytesLE]), length_bytesLE, bytesLE_patternOf, List.getElem?_map,
      List.getElem?_range hlt, Option.map_some, storedByte, hsig]
  case le =>
    have hsig : significanceAt o w .le (o + (i : Int)) = i := by simp only [significanceAt]; omega
    rw [bytesOf, bytesLE_patternOf, List.getElem?_map, List.getElem?_range hi, Option.map_some, storedByte, hsig]

/-- A write leaves its byte of the value in each cell of its region (R22, R26, R29). -/
theorem cellAt_natWrite_inside {o a : Int} {w : Nat} (h : InRegion o w a) (e : Endian) (v : Int) (m : Memory) :
    cellAt (natWrite o w e v m) a = (cellAt m a).map fun _ => storedByte w e o v a := by
  obtain ⟨i, rfl⟩ : ∃ i : Nat, a = o + (i : Int) := ⟨(a - o).toNat, by omega⟩
  exact cellAt_memWrite_of_getElem? (getElem?_bytesOf_patternOf (by omega) e o v) o m

/-! ### The footprint -/

/-- A strict write that succeeds has passed both checks and stored its value (R68). -/
theorem writeEffect_strict_cases {f : Fields} (hmode : f.mode = .strict) (m : Memory) :
    (∃ x, writeEffect f m = .fails x) ∨
    (InRange f.width f.sgn f.value ∧ RegionOK f.offset f.width m.bufLen ∧
      writeEffect f m = .stores (encodeInt f.width f.endian f.sgn f.offset f.value m)) := by
  unfold writeEffect
  split_ifs with hv hr hs
  · exact .inl ⟨_, rfl⟩
  · exact .inl ⟨_, rfl⟩
  · exact .inr ⟨of_not_not fun h => hv ⟨hmode, h⟩, of_not_not fun h => hr ⟨hmode, h⟩, rfl⟩
  · exact absurd ⟨hmode, (not_or.mp hs).1⟩ hv

/-- A command that fails leaves the buffer as it was (R33, R167). -/
theorem exec_buf_of_failure {i : Instr} {s t : State} (h : exec i s = .next t) {r : Response}
    (hr : t.response = some r) (hfail : r.status ≠ .ok) : t.buf = s.buf := by
  rw [eq_afterEffect_of_exec h] at hr ⊢
  rw [afterEffect_response, Option.some.injEq] at hr
  subst hr
  obtain ⟨x, he⟩ | ⟨-, x, -, he⟩ | ⟨-, -, he⟩ | ⟨-, he⟩ := effectOf_cases i.fields s.buf <;> rw [he] at hfail ⊢
  · rfl
  · rfl
  · exact absurd rfl hfail
  · exact absurd rfl hfail

/-- A strict write that succeeds leaves its bytes in every cell of its region (R33). -/
theorem exec_cellAt_of_strict_write {i : Instr} {s t : State} (hwrite : i.isWrite) (hwf : s.buf.wf)
    (h : exec i s = .next t) {r : Response} (hr : t.response = some r) (hok : r.status = .ok)
    (hmode : i.fields.mode = .strict) {a : Int} (ha : InRegion i.fields.offset i.fields.width a) :
    cellAt t.buf a = some (storedByte i.fields.width i.fields.endian i.fields.offset i.fields.value a) := by
  rw [eq_afterEffect_of_exec h] at hr ⊢
  rw [afterEffect_response, Option.some.injEq] at hr
  subst hr
  by_cases hw : Supported i.fields.width
  case neg => rw [effectOf_of_unsupported hw] at hok; cases hok
  rw [effectOf_write hw hwrite] at hok ⊢
  obtain ⟨x, he⟩ | ⟨hv, ⟨hlo, hhi⟩, he⟩ := writeEffect_strict_cases hmode s.buf <;> rw [he] at hok ⊢
  · cases hok
  · have hcell := cellAt_eq_some_byteAt hwf (a := a) (by omega)
    rw [State.afterEffect, answerWrite_buf, encodeInt_eq hw _ _ _ hv, cellAt_natWrite_inside ha, hcell, Option.map_some]

/-- A command leaves what is no cell of the buffer no cell (R20, R26). -/
theorem exec_cellAt_of_no_cell {i : Instr} {s t : State} (hwf : s.buf.wf) (h : exec i s = .next t) {a : Int}
    (ha : ¬ (0 ≤ a ∧ a < (s.buf.bufLen : Int))) : cellAt t.buf a = cellAt s.buf a := by
  rw [(cellAt_eq_none_iff hwf a).mpr ha, cellAt_eq_none_iff (exec_wf h hwf), exec_bufLen h]
  exact ha

/-- Settles O28: its three clauses are the frame, the failure and the strict success. -/
theorem writeFootprint : Obligations.WriteFootprint := by
  unfold Obligations.WriteFootprint
  intro i s t hwrite hwf h
  refine ⟨fun a ha => ?_, fun _ => exec_buf_of_failure h,
    fun _ hr hok hmode _ => exec_cellAt_of_strict_write hwrite hwf h hr hok hmode⟩
  by_cases hreg : InRegion i.fields.offset i.fields.width a
  · exact exec_cellAt_of_no_cell hwf h fun hin => ha ⟨hreg, hin⟩
  · exact exec_cellAt_outside h hreg

end Sys2Proof.Machine
end

section
/-! The command word and the opcode map (R44 to R52, R57, R58): what a request says is what the decoder keeps but for the
ignored inputs, and packing the fields of a call loses none of them. -/
namespace Sys2Proof

/-! ### What a request says -/

/-- The five fields of the command word and the two operand ports of a request (R43). -/
def Request.fields (r : Request) : Fields :=
  { dir := r.dir, sgn := r.sgn, endian := r.endian, mode := r.mode, width := r.width, offset := r.offsetInt,
    value := r.valueInt }

/-- The most specific row of the opcode map for these fields (R58). -/
def Fields.row (f : Fields) : Instr := decodeFields f.dir f.sgn f.endian f.mode f.width f.offset f.value

/-- The fields with the ignored inputs, END at width 1 and WVAL of a read (R50), at the values the encoder gives them. -/
def Fields.withoutIgnored (f : Fields) : Fields :=
  { f with
    endian := if f.width = 1 then .be else f.endian
    value := if f.dir = .read then 0 else f.value }

theorem decode_eq_row (r : Request) : decode r = r.fields.row := rfl

theorem width_fits (r : Request) : widthFits r.width = true :=
  decide_eq_true (Nat.le_of_lt_succ (Nat.mod_lt r.cmd.toNat (by decide)))

theorem offsetInt_fits (r : Request) : offsetFits r.offsetInt = true := by
  have hlo := BitVec.le_toInt r.offset
  have hhi := BitVec.toInt_lt (x := r.offset)
  norm_num at hlo hhi
  exact decide_eq_true ⟨hlo, Int.le_of_lt_add_one hhi⟩

theorem valueInt_fits (r : Request) : valueFits r.valueInt = true := by
  have hlo := BitVec.le_toInt r.wval
  have hhi := BitVec.toInt_lt (x := r.wval)
  norm_num at hlo hhi
  exact decide_eq_true ⟨hlo, Int.le_of_lt_add_one hhi⟩

/-! ### The rows of the opcode map -/

/-- Outside the supported widths only a generic row matches (R59). -/
theorem row_of_unsupported {f : Fields} (hw : ¬ Machine.Supported f.width) :
    f.row = decodeGeneric f.width f.dir f.sgn f.endian f.mode f.offset f.value := by
  unfold Fields.row decodeFields
  split
  case h_9 => rfl
  all_goals exact absurd (by omega) hw

/-- The row of some fields is a most specific one, and holds all of them but the ignored ones. -/
theorem fields_row_and_mostSpecific_row (f : Fields) :
    f.row.fields = f.withoutIgnored ∧ f.row.mostSpecific = true := by
  obtain ⟨d, sg, e, n, w, o, v⟩ := f
  by_cases hw : Machine.Supported w
  case pos =>
    obtain ⟨h1, h8⟩ := hw
    interval_cases w <;> cases d <;> cases sg <;> cases e <;> exact ⟨rfl, rfl⟩
  case neg =>
    have hone : w ≠ 1 := fun h => hw (by omega)
    rw [row_of_unsupported hw, Fields.withoutIgnored, if_neg hone]
    cases d <;> cases sg <;> cases e <;> exact ⟨rfl, decide_eq_true hw⟩

/-- An instruction that is a most specific row is the row of its own fields. -/
theorem row_fields {i : Instr} (h : i.mostSpecific = true) : i.fields.row = i := by
  cases i
  case read | write => cases h
  case readUIntBE | readUIntLE | readIntBE | readIntLE | writeUIntBE | writeUIntLE | writeIntBE | writeIntLE =>
    exact row_of_unsupported (of_decide_eq_true h)
  all_goals rfl

/-- A call is well-formed when its width, offset and value fit their ports (R61). -/
theorem wellFormed_iff (i : Instr) :
    i.wellFormed = true ↔
      widthFits i.fields.width = true ∧ offsetFits i.fields.offset = true ∧ valueFits i.fields.value = true := by
  have hzero : valueFits 0 = true := by decide
  have hwidth (w : Nat) (h : w ≤ 8) : widthFits w = true := decide_eq_true (h.trans (by decide))
  cases i <;> simp [Instr.wellFormed, Instr.fields, hzero, hwidth]

/-! ### The encoder -/

theorem toInt_ofInt_of_offsetFits {o : Int} (h : offsetFits o = true) : (BitVec.ofInt 32 o).toInt = o := by
  obtain ⟨hlo, hhi⟩ := of_decide_eq_true h
  rw [BitVec.toInt_ofInt, Int.bmod_eq_of_le] <;> omega

theorem toInt_ofInt_of_valueFits {v : Int} (h : valueFits v = true) : (BitVec.ofInt 72 v).toInt = v := by
  obtain ⟨hlo, hhi⟩ := of_decide_eq_true h
  rw [BitVec.toInt_ofInt, Int.bmod_eq_of_le] <;> omega

/-- The four flags of the command word stand above its WIDTH field (R44). -/
theorem weights_add_mod (d : Dir) (sg : Signedness) (e : Endian) (n : Mode) {w : Nat} (hw : w < 16) :
    (d.weight + sg.weight + e.weight + n.weight + w) % 16 = w := by
  cases d <;> cases sg <;> cases e <;> cases n <;>
    simp only [Dir.weight, Signedness.weight, Endian.weight, Mode.weight] <;> omega

/-- The request of fields that fit their ports says these fields. -/
theorem fields_request {f : Fields} (hw : widthFits f.width = true) (ho : offsetFits f.offset = true)
    (hv : valueFits f.value = true) : f.request.fields = f := by
  obtain ⟨d, sg, e, n, w, o, v⟩ := f
  have hlt : w < 16 := Nat.lt_succ_of_le (of_decide_eq_true hw)
  obtain ⟨⟨hdir, hsgn⟩, ⟨hend, hlen⟩, hcmd⟩ := Laws.packCmd_fields d sg e n ⟨w, hlt⟩
  dsimp only at hdir hsgn hend hlen hcmd
  have hwidth : (packCmd d sg e n w).toNat % 16 = w := by
    rw [hcmd, weights_add_mod d sg e n hlt]
  simp only [Request.fields, Fields.request, Request.dir, Request.sgn, Request.endian, Request.mode, Request.width,
    Request.offsetInt, Request.valueInt, hdir, hsgn, hend, hlen, hwidth, toInt_ofInt_of_offsetFits ho,
    toInt_ofInt_of_valueFits hv]
  congr 1
  · cases d <;> rfl
  · cases sg <;> rfl
  · cases e <;> rfl
  · cases n <;> rfl

theorem fields_encode {i : Instr} (h : i.wellFormed = true) : (encode i).fields = i.fields := by
  obtain ⟨hw, ho, hv⟩ := (wellFormed_iff i).mp h
  exact fields_request hw ho hv

/-! ### The statements -/

/-- Settles O1: the request of a well-formed call says the call's fields, and a most specific row is the row of its own
fields. -/
theorem decodeOfEncode : Obligations.DecodeOfEncode := by
  unfold Obligations.DecodeOfEncode
  intro i hwf hms
  rw [decode_eq_row, fields_encode hwf, row_fields hms]

theorem fields_decode (r : Request) : (decode r).fields = r.fields.withoutIgnored :=
  (fields_row_and_mostSpecific_row r.fields).left

theorem mostSpecific_decode (r : Request) : (decode r).mostSpecific = true :=
  (fields_row_and_mostSpecific_row r.fields).right

theorem wellFormed_decode (r : Request) : (decode r).wellFormed = true := by
  rw [wellFormed_iff, fields_decode]
  refine ⟨width_fits r, offsetInt_fits r, ?_⟩
  dsimp only [Fields.withoutIgnored]
  split
  · decide
  · exact valueInt_fits r

/-- Settles O2: the decoded instruction has the request's fields but for the ignored ones. -/
theorem decodeKeepsEveryField : Obligations.DecodeKeepsEveryField := by
  unfold Obligations.DecodeKeepsEveryField
  intro r
  rw [fields_decode]
  refine ⟨rfl, rfl, rfl, rfl, rfl, fun hone => if_neg hone, fun hwrite => if_neg ?_, wellFormed_decode r,
    mostSpecific_decode r⟩
  rw [show r.fields.dir = .write from hwrite]
  decide

/-- Settles O3: each request is a literal, and its row is computed. -/
theorem writtenOutRequestsDecode : Obligations.WrittenOutRequestsDecode := by
  unfold Obligations.WrittenOutRequestsDecode
  decide

end Sys2Proof
end

section
/-! The commands as the host issues them (R43, R50, R58, R71): the ignored inputs have no effect, so an issued instruction
runs as itself, whichever of the overlapping rows the decoder answers with. -/
namespace Sys2Proof.Machine

/-! ### The ignored inputs -/

theorem decodeInt_one (e : Endian) (sg : Signedness) (o : Int) (m : Memory) :
    decodeInt 1 e sg o m = decodeInt 1 .be sg o m := by
  cases sg
  · exact (natReadU_one o e m).trans (natReadU_one o .be m).symm
  · exact (natReadS_one o e m).trans (natReadS_one o .be m).symm

theorem bytesOf_one (e : Endian) (u : Nat) : bytesOf e 1 u = bytesOf .be 1 u := by cases e <;> rfl

theorem encodeInt_one (e : Endian) (sg : Signedness) (o v : Int) (m : Memory) :
    encodeInt 1 e sg o v m = encodeInt 1 .be sg o v m :=
  congrArg (fun c => memWrite o c m) (bytesOf_one e (patternOf 1 v))

/-- END at width 1 and WVAL of a read do not reach the effect (R50). -/
theorem effectOf_withoutIgnored (f : Fields) (m : Memory) : effectOf f.withoutIgnored m = effectOf f m := by
  obtain ⟨d, sg, e, n, w, o, v⟩ := f
  by_cases hw : Supported w
  case neg => rw [effectOf_of_unsupported hw, effectOf_of_unsupported hw]
  cases d
  case read =>
    rw [effectOf_read hw rfl, effectOf_read hw rfl]
    obtain rfl | hone := eq_or_ne w 1
    · simp only [readEffect, Fields.withoutIgnored, if_pos, decodeInt_one e]
    · simp only [readEffect, Fields.withoutIgnored, if_neg hone]
  case write =>
    rw [effectOf_write hw rfl, effectOf_write hw rfl]
    obtain rfl | hone := eq_or_ne w 1
    · simp [writeEffect, Fields.withoutIgnored, encodeInt_one e]
    · simp [writeEffect, Fields.withoutIgnored, hone]

/-- Commands whose fields have the same effect do the same (R66). -/
theorem exec_congr {i j : Instr} {s : State} (h : effectOf i.fields s.buf = effectOf j.fields s.buf) :
    exec i s = exec j s := by
  rw [exec_eq_effect, exec_eq_effect, h]

/-- Settles O8: at an unsupported width both fail alike; at a supported one the requests say the same once the ignored
inputs are left out. -/
theorem ignoredInputsHaveNoEffect : Obligations.IgnoredInputsHaveNoEffect := by
  unfold Obligations.IgnoredInputsHaveNoEffect
  intro r r' s hwidth hsame
  refine exec_congr ?_
  rw [fields_decode, fields_decode]
  by_cases hw : Supported r.width
  case neg =>
    have hw' : ¬ Supported r'.width := hwidth ▸ hw
    exact (effectOf_of_unsupported hw s.buf).trans (effectOf_of_unsupported hw' s.buf).symm
  obtain ⟨hdir, hsgn, hmode, hoffset, hend, hwval⟩ := hsame hw
  have hendian : (if r.width = 1 then Endian.be else r.endian) = if r'.width = 1 then .be else r'.endian := by
    rw [← hwidth]
    split_ifs with hone
    · rfl
    · exact hend hone
  have hvalue : (if r.dir = .read then 0 else r.valueInt) = if r'.dir = .read then 0 else r'.valueInt := by
    rw [← hdir]
    cases hd : r.dir
    · rw [if_pos rfl, if_pos rfl]
    · simp only [Request.valueInt, hwval hd]
  have hfields : r.fields.withoutIgnored = r'.fields.withoutIgnored := by
    simp only [Fields.withoutIgnored, Request.fields, Fields.mk.injEq]
    exact ⟨hdir, hsgn, hendian, hmode, hwidth, congrArg BitVec.toInt hoffset, hvalue⟩
  rw [hfields]

/-! ### An issued instruction -/

/-- Settles O4: the event at the front of the host's list is the command. -/
theorem stepRunsTheDecodedCommand : Obligations.StepRunsTheDecodedCommand :=
  fun _ _ _ h => step_of_event h

/-- The row the decoder picks has the effect of the instruction that was encoded (R58, R71). -/
theorem exec_decode_encode {i : Instr} (h : i.wellFormed = true) (s : State) : exec (decode (encode i)) s = exec i s :=
  exec_congr (by rw [fields_decode, fields_encode h, effectOf_withoutIgnored])

/-- Settles O5: the step runs the decoded command, which does what the instruction itself does. -/
theorem issuedInstructionRuns : Obligations.IssuedInstructionRuns := by
  unfold Obligations.IssuedInstructionRuns
  intro i rest s hwf hhost
  rw [stepRunsTheDecodedCommand (encode i) rest s hhost, exec_decode_encode hwf]

end Sys2Proof.Machine
end

section
/-! The response of a command (R48, R53 to R55): what RVAL holds and when, what the mode changes, and the commands on an
empty buffer. -/
namespace Sys2Proof.Machine

/-! ### The flat value of a region -/

/-- The value of a string of bytes, as the sum over the significance indices (R23). -/
theorem uLE_map_range (g : Nat → Byte) (n : Nat) :
    uLE ((List.range n).map g) = ((List.range n).map fun k => (g k).toNat * 256 ^ k).sum := by
  induction n with
  | zero => rfl
  | succ n ih => simp [List.range_succ, uLE_append, ih, uLE, mul_comm]

/-- The bytes of a region in descending index (R22). -/
theorem reverse_memRead (o : Int) (w : Nat) (m : Memory) :
    (memRead o w m).reverse = (List.range w).map fun k => byteAt m (addrOf o w .be k) := by
  refine List.ext_getElem (by simp) fun k hk _ => ?_
  rw [List.length_reverse, length_memRead] at hk
  simp only [memRead, List.getElem_reverse, List.getElem_map, List.getElem_range, List.length_map, List.length_range,
    addrOf]
  congr 1
  omega

theorem uBytes_memRead (w : Nat) (e : Endian) (o : Int) (m : Memory) :
    uBytes e (memRead o w m) = flatUnsigned w e o m := by
  cases e
  · rw [uBytes, uBE, reverse_memRead, uLE_map_range, flatUnsigned]
  · exact uLE_map_range _ w

/-- A read decodes the flat value of its region (R65, R115). -/
theorem decodeInt_eq_flatValue {w : Nat} (hw : Supported w) (e : Endian) (sg : Signedness) (o : Int) (m : Memory) :
    decodeInt w e sg o m = flatValue w e sg o m := by
  rw [decodeInt_eq hw, uBytes_memRead]
  cases sg <;> rfl

/-! ### RVAL -/

/-- A read fails, or gives the flat value of its region, which has passed the guard (R67, R116). -/
theorem effectOf_read_cases {f : Fields} (hdir : f.dir = .read) (m : Memory) :
    (∃ x, effectOf f m = .fails x) ∨
    (¬ TooLarge (flatValue f.width f.endian f.sgn f.offset m) ∧
      effectOf f m = .gives (flatValue f.width f.endian f.sgn f.offset m)) := by
  by_cases hw : Supported f.width
  case neg => exact .inl ⟨_, effectOf_of_unsupported hw m⟩
  rw [effectOf_read hw hdir, readEffect, decodeInt_eq_flatValue hw]
  split_ifs with hr hx
  · exact .inl ⟨_, rfl⟩
  · exact .inl ⟨_, rfl⟩
  · exact .inr ⟨hx, rfl⟩

/-- RVAL is valid exactly for a read that ended with `OK` (R53). -/
theorem rval_isSome_effectOf (f : Fields) (m : Memory) :
    (effectOf f m).response.rval.isSome ↔ f.dir = .read ∧ (effectOf f m).response.status = .ok := by
  obtain ⟨x, he⟩ | ⟨hdir, x, -, he⟩ | ⟨hdir, -, he⟩ | ⟨⟨hdir, -⟩, he⟩ := effectOf_cases f m <;>
    rw [he]
  · simp [Effect.response]
  · simp [Effect.response, hdir]
  · simp [Effect.response, hdir]
  · simp [Effect.response, hdir]

/-- A read that ends with `OK` answers with the flat value of its region, within the safe-integer bound (R53). -/
theorem value_effectOf_of_ok {f : Fields} {m : Memory} (hdir : f.dir = .read)
    (hok : (effectOf f m).response.status = .ok) :
    (effectOf f m).response.value = some (flatValue f.width f.endian f.sgn f.offset m) ∧
      -Config.maxSafe ≤ flatValue f.width f.endian f.sgn f.offset m ∧
      flatValue f.width f.endian f.sgn f.offset m ≤ Config.maxSafe := by
  obtain ⟨x, he⟩ | ⟨hx, he⟩ := effectOf_read_cases hdir m <;> rw [he] at hok ⊢
  case inl => cases hok
  have hvalue : (Effect.gives (flatValue f.width f.endian f.sgn f.offset m)).response.value =
      some (flatValue f.width f.endian f.sgn f.offset m) :=
    congrArg some (toInt_ofInt_of_not_tooLarge hx)
  obtain ⟨-, hbound⟩ := good_of_not_tooLarge hx
  exact ⟨hvalue, hbound _ hvalue⟩

/-- Settles O17: RVAL of a read that is OK is its flat value; RVAL is valid for nothing else. -/
theorem rvalIsTheDecodedValue : Obligations.RvalIsTheDecodedValue := by
  unfold Obligations.RvalIsTheDecodedValue
  intro i s t h
  rw [eq_afterEffect_of_exec h]
  refine ⟨_, afterEffect_response s _, fun hread hok => value_effectOf_of_ok hread hok, fun hnot => ?_⟩
  rw [← Option.not_isSome_iff_eq_none, rval_isSome_effectOf]
  rintro ⟨hread, hok⟩
  obtain hwrite | hfail := hnot
  · rw [hwrite] at hread
    cases hread
  · exact hfail hok

/-- Settles O30: every command has an effect, and the effect's response is its answer. -/
theorem everyCommandIsAnswered : Obligations.EveryCommandIsAnswered := by
  unfold Obligations.EveryCommandIsAnswered
  exact fun i s => ⟨_, _, exec_eq_effect i s, afterEffect_response s _, rval_isSome_effectOf i.fields s.buf⟩

/-! ### The mode -/

/-- A strict command that succeeds has passed its checks, and lenient mode takes nothing else away (R48, R176). -/
theorem effectOf_lenient_of_strict_ok {f : Fields} {m : Memory} (hmode : f.mode = .strict)
    (hok : (effectOf f m).response.status = .ok) : effectOf { f with mode := .lenient } m = effectOf f m := by
  obtain ⟨d, sg, e, n, w, o, v⟩ := f
  by_cases hw : Supported w
  case neg => rw [effectOf_of_unsupported hw] at hok; cases hok
  cases d
  case read =>
    rw [effectOf_read hw rfl] at hok ⊢
    rw [effectOf_read hw rfl]
    by_cases hr : n = .strict ∧ ¬ RegionOK o w m.bufLen
    · rw [readEffect, if_pos hr] at hok; cases hok
    · rw [readEffect, readEffect, if_neg hr, if_neg (passes_bounds_check (.inl rfl))]
  case write =>
    rw [effectOf_write hw rfl] at hok ⊢
    rw [effectOf_write hw rfl]
    obtain ⟨x, he⟩ | ⟨hv, -, he⟩ := writeEffect_strict_cases hmode m
    · rw [he] at hok; cases hok
    · rw [he, writeEffect, if_neg (passes_bounds_check (.inl rfl)), if_neg (passes_bounds_check (.inl rfl)),
        if_pos (.inl hv)]

theorem exec_lenient_of_strict_ok {i i' : Instr} {s t : State} {x : Option (BitVec 64)}
    (hmode : i.fields.mode = .strict) (hi' : i'.fields = { i.fields with mode := .lenient })
    (hok : t.response = some { status := .ok, rval := x }) (h : exec i s = .next t) : exec i' s = .next t := by
  rw [eq_afterEffect_of_exec h, afterEffect_response, Option.some.injEq] at hok
  have heff : effectOf i'.fields s.buf = effectOf i.fields s.buf := by
    rw [hi', effectOf_lenient_of_strict_ok hmode (by rw [hok])]
  rw [exec_congr heff, h]

/-- Settles O35: both forms are instances of one fact about a command in its two modes. -/
theorem strictSuccessIsLenientSuccess : Obligations.StrictSuccessIsLenientSuccess := by
  unfold Obligations.StrictSuccessIsLenientSuccess
  exact fun _ _ _ _ _ _ _ _ hok => ⟨exec_lenient_of_strict_ok rfl rfl hok, exec_lenient_of_strict_ok rfl rfl hok⟩

/-! ### The empty buffer -/

/-- No region lies in a buffer without cells (R54). -/
theorem not_regionOK_zero {w : Nat} (hw : Supported w) (o : Int) : ¬ RegionOK o w 0 := by omega

/-- A lenient write is never refused (R68, R69). -/
theorem response_effectOf_lenient_write {f : Fields} (hw : Supported f.width) (hdir : f.dir = .write)
    (hmode : f.mode = .lenient) (m : Memory) : (effectOf f m).response = ⟨.ok, none⟩ := by
  rw [effectOf_write hw hdir, writeEffect, if_neg (passes_bounds_check (.inl hmode)),
    if_neg (passes_bounds_check (.inl hmode))]
  split <;> rfl

/-- Settles O37: the bounds check fails, a lenient read is one outside the buffer, and a lenient write has no cell to
change. -/
theorem emptyBufferIsLegal : Obligations.EmptyBufferIsLegal := by
  unfold Obligations.EmptyBufferIsLegal
  intro i s hbuf hw
  have hlen : s.buf.bufLen = 0 := by rw [hbuf]; rfl
  have hreg : ¬ RegionOK i.fields.offset i.fields.width s.buf.bufLen := hlen ▸ not_regionOK_zero hw i.fields.offset
  refine ⟨fun hmode hread => ?_, fun hmode hwrite hv => ?_, fun hmode hread => ?_, fun hmode hwrite => ?_⟩
  · rw [exec_eq_effect, effectOf_read hw hread, readEffect, if_pos ⟨hmode, hreg⟩]
    rfl
  · rw [exec_eq_effect, effectOf_write hw hwrite, writeEffect, if_neg (fun hc => hc.2 hv), if_pos ⟨hmode, hreg⟩]
    rfl
  · have hwf : s.buf.wf := by rw [hbuf]; rfl
    exact lenientReadOutsideIsZero i s hread hw hmode hwf fun a _ => by omega
  · have hexec := exec_eq_effect i s
    have hcells := exec_bufLen hexec
    refine ⟨_, hexec, ?_, List.eq_nil_of_length_eq_zero (hcells.trans hlen)⟩
    rw [afterEffect_response, response_effectOf_lenient_write hw hwrite hmode]

/-! ### The codes of STATUS -/

/-- Settles O47. -/
theorem statusCodes : Obligations.StatusCodes := by
  unfold Obligations.StatusCodes
  decide

end Sys2Proof.Machine
end

section
/-! The dispatcher (R58, R64, R66, R71): every request does what the common flow does with its own fields, so instructions
presented as one request do the same, and outside the supported widths every command fails alike. -/
namespace Sys2Proof.Machine

/-! ### The common flow -/

/-- The common flow has the effect of the request's own fields (R66). -/
theorem execCommand_eq_effect (r : Request) (s : State) :
    execCommand r s = .next (s.afterEffect (effectOf r.fields s.buf)) := by
  by_cases hw : Supported r.width
  case neg => rw [execCommand, if_neg hw, raise_eq, effectOf_of_unsupported hw, State.afterEffect]
  rw [execCommand, if_pos hw]
  cases hdir : r.dir
  case read => rw [effectOf_read hw hdir]; exact readFlow_eq_effect r.fields s
  case write => rw [effectOf_write hw hdir]; exact writeFlow_eq_effect r.fields s

theorem exec_decode_eq_execCommand (r : Request) (s : State) : exec (decode r) s = execCommand r s := by
  rw [exec_eq_effect, execCommand_eq_effect, fields_decode, effectOf_withoutIgnored]

/-- Settles O6: the decoded instruction and the common flow have the effect of the same fields, whose response is the
answer. -/
theorem execIsTheCommandFlow : Obligations.ExecIsTheCommandFlow := by
  unfold Obligations.ExecIsTheCommandFlow
  exact fun r s => ⟨exec_decode_eq_execCommand r s, _, _, execCommand_eq_effect r s, afterEffect_response s _,
    rval_isSome_effectOf r.fields s.buf⟩

/-- Settles O7: each of the two instructions does what its request, decoded, does. -/
theorem sameRequestSameEffect : Obligations.SameRequestSameEffect := by
  unfold Obligations.SameRequestSameEffect
  intro i j s hi hj hreq
  rw [← exec_decode_encode hi, hreq, exec_decode_encode hj]

/-! ### The width test -/

/-- A command of unsupported width fails before its other fields are looked at (R64). -/
theorem exec_of_unsupported {i : Instr} (hw : ¬ Supported i.fields.width) (s : State) :
    exec i s = .next (s.afterFailure .unsupportedWidth) := by
  rw [exec_eq_effect, effectOf_of_unsupported hw]
  rfl

/-- Settles O9: the ten forms are instances of one fact about a command of unsupported width. -/
theorem unsupportedWidthFails : Obligations.UnsupportedWidthFails := by
  unfold Obligations.UnsupportedWidthFails
  intro w o v e sg n s hw
  have hfails (i : Instr) (hi : i.fields.width = w) : exec i s = .next (s.afterFailure .unsupportedWidth) :=
    exec_of_unsupported (hi ▸ hw) s
  exact ⟨hfails _ rfl, hfails _ rfl, hfails _ rfl, hfails _ rfl, hfails _ rfl, hfails _ rfl, hfails _ rfl, hfails _ rfl,
    hfails _ rfl, hfails _ rfl⟩

end Sys2Proof.Machine
end

section
/-! The commands that complete (R65, R67 to R69): a read that its mode lets reach the region answers with the flat value, or
is stopped by the guard; a write in range leaves the bytes of its value in the region, and a lenient one out of range its
free bytes. Each fact is about any instruction; the forms with the width as an operand are instances of it. -/
namespace Sys2Proof.Machine

/-! ### Reads -/

/-- A read that its mode lets reach the region is decided by the guard on its flat value (R67, R116). -/
theorem effectOf_read_of_fits {f : Fields} {m : Memory} (hread : f.dir = .read) (hw : Supported f.width)
    (hfits : f.mode = .lenient ∨ RegionOK f.offset f.width m.bufLen) :
    effectOf f m =
      if TooLarge (flatValue f.width f.endian f.sgn f.offset m) then .fails .integerTooLarge
      else .gives (flatValue f.width f.endian f.sgn f.offset m) := by
  rw [effectOf_read hw hread, readEffect, if_neg (passes_bounds_check hfits), decodeInt_eq_flatValue hw]

/-- A read within the safe-integer bound answers with the flat value of its region (R67). -/
theorem exec_read_of_not_tooLarge {i : Instr} {s : State} (hread : i.isRead) (hw : Supported i.fields.width)
    (hfits : Fits i.fields.mode i.fields.offset i.fields.width s)
    (hx : ¬ TooLarge (flatValue i.fields.width i.fields.endian i.fields.sgn i.fields.offset s.buf)) :
    exec i s = .next (s.afterRead (flatValue i.fields.width i.fields.endian i.fields.sgn i.fields.offset s.buf)) := by
  rw [exec_eq_effect, effectOf_read_of_fits hread hw hfits, if_neg hx]
  rfl

/-- A read beyond the safe-integer bound fails (R116). -/
theorem exec_read_of_tooLarge {i : Instr} {s : State} (hread : i.isRead) (hw : Supported i.fields.width)
    (hfits : Fits i.fields.mode i.fields.offset i.fields.width s)
    (hx : TooLarge (flatValue i.fields.width i.fields.endian i.fields.sgn i.fields.offset s.buf)) :
    exec i s = .next (s.afterFailure .integerTooLarge) := by
  rw [exec_eq_effect, effectOf_read_of_fits hread hw hfits, if_pos hx]
  rfl

/-- The value the region holds decides a read that its mode lets reach it (R67, R116). -/
theorem exec_read_of_flatValue_eq {i : Instr} {s : State} {x : Int} (hread : i.isRead) (hw : Supported i.fields.width)
    (hfits : Fits i.fields.mode i.fields.offset i.fields.width s)
    (hx : flatValue i.fields.width i.fields.endian i.fields.sgn i.fields.offset s.buf = x) :
    (¬ TooLarge x → exec i s = .next (s.afterRead x)) ∧
      (TooLarge x → exec i s = .next (s.afterFailure .integerTooLarge)) := by
  subst hx
  exact ⟨exec_read_of_not_tooLarge hread hw hfits, exec_read_of_tooLarge hread hw hfits⟩

/-- Settles O13: each of the five forms is a read with its own fields. -/
theorem genericReadsAnswer : Obligations.GenericReadsAnswer := by
  unfold Obligations.GenericReadsAnswer
  intro w e sg n o s
  exact ⟨exec_read_of_not_tooLarge (i := .read o w e sg n) rfl,
    exec_read_of_not_tooLarge (i := .readUIntBE w o n) rfl, exec_read_of_not_tooLarge (i := .readUIntLE w o n) rfl,
    exec_read_of_not_tooLarge (i := .readIntBE w o n) rfl, exec_read_of_not_tooLarge (i := .readIntLE w o n) rfl⟩

/-! ### The region a write stores into -/

/-- A string written stores its bytes into its region and leaves every other cell (R26). -/
theorem storesRegion_memWrite {o : Int} {w : Nat} {bs : List Byte} {g : Int → Byte} {s t : State}
    (hlen : bs.length = w) (hbytes : ∀ i : Nat, i < w → bs[i]? = some (g (o + (i : Int))))
    (hbuf : t.buf = memWrite o bs s.buf) (hhost : t.host = s.host) : StoresRegion o w g s t := by
  refine ⟨by rw [hbuf, bufLen_memWrite], hhost, fun a => ?_⟩
  rw [hbuf]
  split_ifs with ha
  · obtain ⟨i, rfl⟩ : ∃ i : Nat, a = o + (i : Int) := ⟨(a - o).toNat, by omega⟩
    exact cellAt_memWrite_of_getElem? (hbytes i (by omega)) o s.buf
  · exact cellAt_memWrite_outside o a bs s.buf (hlen ▸ ha)

/-- The state after one write of v in the whole region is the one a successful write of v is to leave (R29, R68). -/
theorem writes_natWrite (w : Nat) (e : Endian) (o v : Int) (s : State) :
    Writes w e o v s (s.answerWrite (natWrite o w e v s.buf)) :=
  ⟨rfl, rfl, storesRegion_memWrite (length_bytesOf e w _) (fun _ hi => getElem?_bytesOf_patternOf hi e o v) rfl rfl⟩

/-! ### Writes in the nominal range -/

/-- A write in the nominal range that its mode lets reach the region stores its value (R68). -/
theorem exec_write_of_inRange {i : Instr} {s : State} (hwrite : i.isWrite) (hw : Supported i.fields.width)
    (hv : InRange i.fields.width i.fields.sgn i.fields.value)
    (hfits : Fits i.fields.mode i.fields.offset i.fields.width s) :
    exec i s = .next (s.answerWrite
      (natWrite i.fields.offset i.fields.width i.fields.endian i.fields.value s.buf)) := by
  rw [exec_eq_effect, effectOf_write hw hwrite, writeEffect, if_neg (fun hc => hc.2 hv),
    if_neg (passes_bounds_check hfits), if_pos (.inl hv), encodeInt_eq hw _ _ _ hv, State.afterEffect]

/-- A write in the nominal range that its mode lets reach the region succeeds and does nothing else (R68). -/
theorem exists_exec_write_of_inRange {i : Instr} {s : State} (hwrite : i.isWrite) (hw : Supported i.fields.width)
    (hv : InRange i.fields.width i.fields.sgn i.fields.value)
    (hfits : Fits i.fields.mode i.fields.offset i.fields.width s) :
    ∃ t, exec i s = .next t ∧ Writes i.fields.width i.fields.endian i.fields.offset i.fields.value s t :=
  ⟨_, exec_write_of_inRange hwrite hw hv hfits, writes_natWrite _ _ _ _ s⟩

/-- Settles O24: each of the five forms is a write with its own fields. -/
theorem genericWritesAnswer : Obligations.GenericWritesAnswer := by
  unfold Obligations.GenericWritesAnswer
  intro w e sg n v o s
  exact ⟨exists_exec_write_of_inRange (i := .write o w v e sg n) rfl,
    exists_exec_write_of_inRange (i := .writeUIntBE v w o n) rfl,
    exists_exec_write_of_inRange (i := .writeUIntLE v w o n) rfl,
    exists_exec_write_of_inRange (i := .writeIntBE v w o n) rfl,
    exists_exec_write_of_inRange (i := .writeIntLE v w o n) rfl⟩

/-! ### Lenient writes out of range -/

/-- A lenient write out of range that does not saturate draws a byte for each cell of its region (R69). -/
theorem effectOf_of_drawsBytes {f : Fields} (h : DrawsBytes f) (m : Memory) :
    effectOf f m = .draws f.offset f.width := by
  obtain ⟨hwrite, hmode, hw, hout, hsat⟩ := h
  rw [effectOf_write hw hwrite, writeEffect, if_neg (passes_bounds_check (.inl hmode)),
    if_neg (passes_bounds_check (.inl hmode)), if_neg (not_or.mpr ⟨hout, hsat⟩)]

/-- The byte drawn for the cell at index i of the region (R69). -/
theorem getElem?_drawBytes {w i : Nat} (hi : i < w) (k : Nat) (o : Int) :
    (drawBytes k w)[i]? = some (Config.draw (k + (o + (i : Int) - o).toNat)) := by
  simp [drawBytes, hi]

/-- Settles O27: the region is written with one drawn byte for each of its cells. -/
theorem lenientOutOfRangeLeavesFreeBytes : Obligations.LenientOutOfRangeLeavesFreeBytes := by
  unfold Obligations.LenientOutOfRangeLeavesFreeBytes
  intro i s hdraws
  have hexec := exec_eq_effect i s
  rw [effectOf_of_drawsBytes hdraws] at hexec
  exact ⟨_, hexec, rfl, rfl,
    storesRegion_memWrite (length_drawBytes _ _) (fun _ hi => getElem?_drawBytes hi s.draws _) rfl rfl⟩

end Sys2Proof.Machine
end

section
/-! The round trip (R72, R188): a region inside the buffer reads back the string written to it, and the two's-complement
pattern of a value in the nominal range stands for that value. -/
namespace Sys2Proof.Machine

/-- A string written to a region inside a canonical buffer is read back (R25, R26). -/
theorem memRead_memWrite {o : Int} {m : Memory} (hwf : m.wf) (bs : List Byte) (hreg : RegionOK o bs.length m.bufLen) :
    memRead o bs.length (memWrite o bs m) = bs := by
  obtain ⟨hlo, hhi⟩ := hreg
  refine List.ext_getElem? fun i => ?_
  by_cases hi : i < bs.length
  · have hcell := cellAt_memWrite_of_getElem? (List.getElem?_eq_getElem hi) o m
    rw [cellAt_eq_some_byteAt hwf (by omega), Option.map_some] at hcell
    rw [getElem?_memRead _ _ hi, byteAt, hcell, Option.getD_some, List.getElem?_eq_getElem hi]
  · rw [List.getElem?_eq_none (by rw [length_memRead]; omega), List.getElem?_eq_none (by omega)]

theorem patternOf_lt (n : Nat) (x : Int) : patternOf n x < 256 ^ n := by
  have hlt := Int.emod_lt_of_pos x (b := ((256 ^ n : Nat) : Int)) (by positivity)
  rw [← cast_patternOf] at hlt
  exact_mod_cast hlt

/-- Sign extension takes the pattern of a value in the signed range back to the value (R8, R28, R29). -/
theorem sext_patternOf {w : Nat} (hw : 1 ≤ w) {v : Int} (hv : InRange w .signed v) : sext (8 * w) (patternOf w v) = v := by
  obtain ⟨hlo, hhi⟩ := hv
  have hpow : 256 ^ w = 2 * 2 ^ (8 * w - 1) := by
    rw [← two_pow_eight_mul, ← pow_succ']
    congr 1
    omega
  simp only [minVal, maxVal] at hlo hhi
  rw [sext, two_pow_eight_mul]
  obtain hneg | hpos := lt_or_ge v 0
  · rw [patternOf_of_neg hneg (by omega), if_neg (by omega)]
    omega
  · rw [patternOf_of_nonneg hpos (by omega), if_pos (by omega)]
    omega

/-- The pattern of a value in the nominal range stands for the value (R8, R29). -/
theorem intOfBytes_patternOf {w : Nat} (hw : 1 ≤ w) {sg : Signedness} {v : Int} (hv : InRange w sg v) :
    intOfBytes w sg (patternOf w v) = v := by
  cases sg
  case unsigned =>
    obtain ⟨hlo, hhi⟩ := hv
    simp only [minVal, maxVal, two_pow_eight_mul] at hlo hhi
    rw [intOfBytes, patternOf_of_nonneg hlo (by omega), Int.toNat_of_nonneg hlo]
  case signed => exact sext_patternOf hw hv

/-- The flat value of a region inside the buffer is the value in the nominal range written there (R72). -/
theorem flatValue_natWrite {w : Nat} (hw : Supported w) (e : Endian) {sg : Signedness} {o v : Int} {m : Memory}
    (hv : InRange w sg v) (hwf : m.wf) (hreg : RegionOK o w m.bufLen) :
    flatValue w e sg o (natWrite o w e v m) = v := by
  have hread := memRead_memWrite hwf (bytesOf e w (patternOf w v)) (o := o)
  rw [length_bytesOf] at hread
  rw [← decodeInt_eq_flatValue hw, decodeInt_eq hw, natWrite, hread hreg, uBytes_bytesOf e (patternOf_lt w v),
    intOfBytes_patternOf hw.1 hv]

/-- Settles O36: the flat value that decides the read is the value that was written. -/
theorem roundTrip : Obligations.RoundTrip := by
  unfold Obligations.RoundTrip
  intro i j s hwrite hread hwidth hendian hsgn hoffset hw hv hwf hreg
  refine ⟨_, exec_write_of_inRange hwrite hw hv (.inr hreg), rfl,
    exec_read_of_flatValue_eq hread (hwidth ▸ hw) (.inr ?_) ?_⟩
  · rwa [answerWrite_buf, bufLen_natWrite, ← hwidth, ← hoffset]
  · rw [answerWrite_buf, ← hwidth, ← hendian, ← hsgn, ← hoffset]
    exact flatValue_natWrite hw _ hv hwf hreg

end Sys2Proof.Machine
end

section
/-! The native widths (R86, R87, R89 to R108): the flat value of a region lies in the nominal range, which up to width 6 lies
within the safe-integer bound, so the guard stops none of these reads; each instruction is a read or a write with the fields of
its row. -/
namespace Sys2Proof.Machine

/-! ### The guard passes every value of at most six bytes -/

/-- The bytes of a region of w cells make a number below 256^w (R23). -/
theorem flatUnsigned_lt (w : Nat) (e : Endian) (o : Int) (m : Memory) : flatUnsigned w e o m < 256 ^ w :=
  uBytes_memRead w e o m ▸ uBytes_memRead_lt e o w m

/-- The flat value of a region lies in the nominal range of its width and signedness (R8, R27, R28). -/
theorem inRange_flatValue {w : Nat} (hw : 1 ≤ w) (e : Endian) (sg : Signedness) (o : Int) (m : Memory) :
    InRange w sg (flatValue w e sg o m) := by
  have hlt : flatUnsigned w e o m < 2 ^ (8 * w) := two_pow_eight_mul w ▸ flatUnsigned_lt w e o m
  cases sg
  case unsigned => exact ⟨Int.natCast_nonneg _, Int.le_sub_one_of_lt (Int.ofNat_lt.mpr hlt)⟩
  case signed => exact sext_mem_range (by omega) hlt

/-- A value in the nominal range of at most six bytes lies within the safe-integer bound (R118). -/
theorem not_tooLarge_of_inRange {w : Nat} (hw : w ≤ 6) {sg : Signedness} {x : Int} (hx : InRange w sg x) : ¬ TooLarge x := by
  obtain ⟨hlo, hhi⟩ := hx
  simp only [TooLarge, Config.maxSafe]
  cases sg
  case unsigned =>
    have hpow : 2 ^ (8 * w) ≤ 2 ^ 48 := Nat.pow_le_pow_right (by omega) (by omega)
    simp only [minVal, maxVal] at hlo hhi
    omega
  case signed =>
    have hpow : 2 ^ (8 * w - 1) ≤ 2 ^ 47 := Nat.pow_le_pow_right (by omega) (by omega)
    simp only [minVal, maxVal] at hlo hhi
    omega

/-- A read of at most six bytes that its mode lets reach the region answers with the region's flat value: the guard never
stops it (R67, R118). -/
theorem exec_read_of_width_le_six {i : Instr} {s : State} (hread : i.isRead)
    (hw : 1 ≤ i.fields.width ∧ i.fields.width ≤ 6) (hfits : Fits i.fields.mode i.fields.offset i.fields.width s) :
    exec i s = .next (s.afterRead (flatValue i.fields.width i.fields.endian i.fields.sgn i.fields.offset s.buf)) :=
  exec_read_of_not_tooLarge hread ⟨hw.1, by omega⟩ hfits (not_tooLarge_of_inRange hw.2 (inRange_flatValue hw.1 _ _ _ _))

/-! ### The statements -/

/-- Settles O10: each of the ten instructions is a read of one, two or four bytes. -/
theorem nativeReadsAnswer : Obligations.NativeReadsAnswer := by
  unfold Obligations.NativeReadsAnswer
  intro n o s
  have h1 : 1 ≤ 1 ∧ 1 ≤ 6 := by decide
  have h2 : 1 ≤ 2 ∧ 2 ≤ 6 := by decide
  have h4 : 1 ≤ 4 ∧ 4 ≤ 6 := by decide
  refine ⟨fun hfits => ⟨?_, ?_⟩, fun hfits => ⟨?_, ?_, ?_, ?_⟩, fun hfits => ⟨?_, ?_, ?_, ?_⟩⟩
  · exact exec_read_of_width_le_six (i := .readUInt8 o n) rfl h1 hfits
  · exact exec_read_of_width_le_six (i := .readInt8 o n) rfl h1 hfits
  · exact exec_read_of_width_le_six (i := .readUInt16BE o n) rfl h2 hfits
  · exact exec_read_of_width_le_six (i := .readUInt16LE o n) rfl h2 hfits
  · exact exec_read_of_width_le_six (i := .readInt16BE o n) rfl h2 hfits
  · exact exec_read_of_width_le_six (i := .readInt16LE o n) rfl h2 hfits
  · exact exec_read_of_width_le_six (i := .readUInt32BE o n) rfl h4 hfits
  · exact exec_read_of_width_le_six (i := .readUInt32LE o n) rfl h4 hfits
  · exact exec_read_of_width_le_six (i := .readInt32BE o n) rfl h4 hfits
  · exact exec_read_of_width_le_six (i := .readInt32LE o n) rfl h4 hfits

/-- Settles O21: each of the ten instructions is a write of one, two or four bytes. -/
theorem nativeWritesAnswer : Obligations.NativeWritesAnswer := by
  unfold Obligations.NativeWritesAnswer
  intro n v o s
  have h1 : Supported 1 := by decide
  have h2 : Supported 2 := by decide
  have h4 : Supported 4 := by decide
  refine ⟨fun hv hfits => ?_, fun hv hfits => ?_, fun hv hfits => ⟨?_, ?_⟩, fun hv hfits => ⟨?_, ?_⟩,
    fun hv hfits => ⟨?_, ?_⟩, fun hv hfits => ⟨?_, ?_⟩⟩
  · exact exists_exec_write_of_inRange (i := .writeUInt8 v o n) rfl h1 hv hfits
  · exact exists_exec_write_of_inRange (i := .writeInt8 v o n) rfl h1 hv hfits
  · exact exists_exec_write_of_inRange (i := .writeUInt16BE v o n) rfl h2 hv hfits
  · exact exists_exec_write_of_inRange (i := .writeUInt16LE v o n) rfl h2 hv hfits
  · exact exists_exec_write_of_inRange (i := .writeInt16BE v o n) rfl h2 hv hfits
  · exact exists_exec_write_of_inRange (i := .writeInt16LE v o n) rfl h2 hv hfits
  · exact exists_exec_write_of_inRange (i := .writeUInt32BE v o n) rfl h4 hv hfits
  · exact exists_exec_write_of_inRange (i := .writeUInt32LE v o n) rfl h4 hv hfits
  · exact exists_exec_write_of_inRange (i := .writeInt32BE v o n) rfl h4 hv hfits
  · exact exists_exec_write_of_inRange (i := .writeInt32LE v o n) rfl h4 hv hfits

end Sys2Proof.Machine
end

section
/-! The split of the composite widths (R109 to R115): the table of its parts, the laws of its quotient and remainder, and that
its codecs do what the native ones would do with the whole region. -/
namespace Sys2Proof.Machine

/-! ### The parts of a composite width -/

/-- The widths of R109 are the supported ones that no native primitive handles. -/
theorem supported_and_not_native_of_composite {w : Nat} (hw : w ∈ [3, 5, 6, 7, 8]) : Supported w ∧ ¬ NativeWidth w := by
  revert w
  decide

theorem highWidth_add_lowWidth_of_composite {w : Nat} (hw : w ∈ [3, 5, 6, 7, 8]) : highWidth w + lowWidth w = w :=
  have ⟨hsup, hnot⟩ := supported_and_not_native_of_composite hw
  highWidth_add_lowWidth hsup hnot

/-- Settles O43: the multiplier is 256 to the bytes of the low part, and the two parts make up the width. -/
theorem splitTable : Obligations.SplitTable := by
  unfold Obligations.SplitTable
  refine ⟨by decide, fun w hw => ?_⟩
  exact ⟨highWidth_add_lowWidth_of_composite hw, splitBase_eq w, fun _ => ⟨rfl, rfl, rfl, rfl⟩⟩

/-! ### The quotient and the remainder -/

theorem splitBase_pos (w : Nat) : 0 < splitBase w := by
  rw [splitBase_eq]
  positivity

theorem lowPart_nonneg (w : Nat) (v : Int) : 0 ≤ lowPart w v :=
  Int.emod_nonneg v (splitBase_pos w).ne'

theorem lowPart_lt (w : Nat) (v : Int) : lowPart w v < splitBase w :=
  Int.emod_lt_of_pos v (splitBase_pos w)

/-- Joining the two parts of a value undoes the split (R110, R112). -/
theorem joinParts_highPart_lowPart (w : Nat) (v : Int) : joinParts w (highPart w v) (lowPart w v) = v :=
  Int.ediv_mul_add_emod v (splitBase w)

/-- Settles O45: the laws of division by the positive multiplier, and the examples computed. -/
theorem quotientAndRemainder : Obligations.QuotientAndRemainder := by
  unfold Obligations.QuotientAndRemainder
  refine ⟨fun w v => ⟨lowPart_nonneg w v, lowPart_lt w v, joinParts_highPart_lowPart w v⟩, ?_⟩
  decide

/-! ### The split and the flat interpretation -/

/-- Settles O44: each codec, high part and low part together, is the native one of the whole region. -/
theorem splitIsFlat : Obligations.SplitIsFlat := by
  unfold Obligations.SplitIsFlat
  intro w e o m hw
  have hsum := highWidth_add_lowWidth_of_composite hw
  exact ⟨decodeU_eq hsum e o m, decodeS_eq hsum e o m, fun _ v _ => encodeSplit_eq hsum e o v m⟩

end Sys2Proof.Machine
end

section
/-! The guard and the reads it decides (R116 to R118, R122 to R166): it stops a value beyond the safe-integer bound, which of
the 7- and 8-byte values that is can be told from the most significant bytes, and each instruction is a read with the fields
of its row. -/
namespace Sys2Proof.Machine

/-! ### The decision -/

/-- Settles O14: the two outcomes of a read that its mode lets reach the region, by the guard's own test. -/
theorem guardDecidesEveryRead : Obligations.GuardDecidesEveryRead := by
  unfold Obligations.GuardDecidesEveryRead
  intro i s hread hw hfits
  by_cases hx : TooLarge (flatValue i.fields.width i.fields.endian i.fields.sgn i.fields.offset s.buf)
  · exact (exec_read_of_tooLarge hread hw hfits hx).trans (congrArg _ (if_pos hx).symm)
  · exact (exec_read_of_not_tooLarge hread hw hfits hx).trans (congrArg _ (if_neg hx).symm)

/-- Settles O15: the value of each literal region is computed and compared with the bound. -/
theorem guardBoundaryIsStrict : Obligations.GuardBoundaryIsStrict := by
  unfold Obligations.GuardBoundaryIsStrict
  refine ⟨(exec_read_of_flatValue_eq (x := 9007199254740991) ?_ ?_ ?_ ?_).left ?_,
    (exec_read_of_flatValue_eq (x := 9007199254740992) ?_ ?_ ?_ ?_).right ?_,
    (exec_read_of_flatValue_eq (x := -9007199254740991) ?_ ?_ ?_ ?_).left ?_,
    (exec_read_of_flatValue_eq (x := -9007199254740992) ?_ ?_ ?_ ?_).right ?_,
    (exec_read_of_flatValue_eq (x := 9007199254740991) ?_ ?_ ?_ ?_).left ?_,
    (exec_read_of_flatValue_eq (x := 72057594037927935) ?_ ?_ ?_ ?_).right ?_⟩
  all_goals decide

/-! ### The guard in terms of bytes -/

/-- A big-endian region is its first byte, the most significant, before the region of the others (R22). -/
theorem flatUnsigned_be_succ (w : Nat) (o : Int) (m : Memory) :
    flatUnsigned (w + 1) .be o m = (byteAt m o).toNat * 256 ^ w + flatUnsigned w .be (o + 1) m := by
  have hfirst : addrOf o (w + 1) .be w = o := by simp only [addrOf]; omega
  have hrest (k : Nat) : addrOf o (w + 1) .be k = addrOf (o + 1) w .be k := by simp only [addrOf]; omega
  simp only [flatUnsigned, List.range_succ, List.map_append, List.sum_append, List.map_singleton, List.sum_singleton, hfirst]
  simp only [hrest]
  exact add_comm _ _

/-- An unsigned value passes the guard when it is at most 2^53 - 1 (R116). -/
theorem not_tooLarge_flatValue_unsigned_iff (w : Nat) (e : Endian) (o : Int) (m : Memory) :
    ¬ TooLarge (flatValue w e .unsigned o m) ↔ flatUnsigned w e o m ≤ 9007199254740991 := by
  simp only [TooLarge, flatValue, Config.maxSafe]
  omega

/-- 2^53 is 20 hex at the most significant place of 7 bytes (R118). -/
theorem guard_passes_seven_bytes_iff (o : Int) (m : Memory) :
    ¬ TooLarge (flatValue 7 .be .unsigned o m) ↔ (byteAt m o).toNat ≤ 0x1f := by
  have hrest := flatUnsigned_lt 6 .be (o + 1) m
  rw [not_tooLarge_flatValue_unsigned_iff, flatUnsigned_be_succ]
  omega

/-- An 8-byte value below 2^56 is one of 7 bytes behind a first byte 00 (R118). -/
theorem guard_passes_eight_bytes_iff (o : Int) (m : Memory) :
    ¬ TooLarge (flatValue 8 .be .unsigned o m) ↔ byteAt m o = 0x00#8 ∧ (byteAt m (o + 1)).toNat ≤ 0x1f := by
  have hzero : byteAt m o = 0x00#8 ↔ (byteAt m o).toNat = 0 := BitVec.toNat_inj.symm
  have hseven := guard_passes_seven_bytes_iff (o + 1) m
  rw [not_tooLarge_flatValue_unsigned_iff] at hseven
  rw [not_tooLarge_flatValue_unsigned_iff, flatUnsigned_be_succ, hzero, ← hseven]
  omega

/-- Settles O16: the nominal range bounds the narrow widths, the most significant bytes decide the two wide ones. -/
theorem guardInTermsOfBytes : Obligations.GuardInTermsOfBytes := by
  unfold Obligations.GuardInTermsOfBytes
  refine ⟨fun w e sg o m hlo hhi => ?_, guard_passes_eight_bytes_iff, guard_passes_seven_bytes_iff⟩
  exact not_tooLarge_of_inRange hhi (inRange_flatValue hlo e sg o m)

/-! ### The composite reads -/

/-- Settles O11: each of the twelve instructions is a read of three, five or six bytes. -/
theorem compositeReadsAnswer : Obligations.CompositeReadsAnswer := by
  unfold Obligations.CompositeReadsAnswer
  intro n o s
  have h3 : 1 ≤ 3 ∧ 3 ≤ 6 := by decide
  have h5 : 1 ≤ 5 ∧ 5 ≤ 6 := by decide
  have h6 : 1 ≤ 6 ∧ 6 ≤ 6 := by decide
  refine ⟨fun hfits => ?_, fun hfits => ?_, fun hfits => ?_⟩
  · refine ⟨?_, ?_, ?_, ?_⟩ <;> exact exec_read_of_width_le_six rfl h3 hfits
  · refine ⟨?_, ?_, ?_, ?_⟩ <;> exact exec_read_of_width_le_six rfl h5 hfits
  · refine ⟨?_, ?_, ?_, ?_⟩ <;> exact exec_read_of_width_le_six rfl h6 hfits

/-- Settles O12: each of the eight instructions is a read of seven or eight bytes. -/
theorem guardedReadsAnswer : Obligations.GuardedReadsAnswer := by
  unfold Obligations.GuardedReadsAnswer
  intro n o s
  have h7 : Supported 7 := by decide
  have h8 : Supported 8 := by decide
  refine ⟨fun hfits => ?_, fun hfits => ?_⟩
  · refine ⟨fun hx => ?_, fun hx => ?_, fun hx => ?_, fun hx => ?_⟩ <;> exact exec_read_of_not_tooLarge rfl h7 hfits hx
  · refine ⟨fun hx => ?_, fun hx => ?_, fun hx => ?_, fun hx => ?_⟩ <;> exact exec_read_of_not_tooLarge rfl h8 hfits hx

end Sys2Proof.Machine
end

section
/-! The writes of the composite widths (R112, R119 to R121): a value in the nominal range is stored exactly, and at widths 7
and 8 a value at or above the maximum is stored as the maximum, whose bytes are the literal pattern of R120. -/
namespace Sys2Proof.Machine

/-! ### Values in the nominal range -/

/-- Settles O22: each of the twelve instructions is a write of three, five or six bytes. -/
theorem compositeWritesAnswer : Obligations.CompositeWritesAnswer := by
  unfold Obligations.CompositeWritesAnswer
  intro n v o s
  have h3 : Supported 3 := by decide
  have h5 : Supported 5 := by decide
  have h6 : Supported 6 := by decide
  refine ⟨fun hv hfits => ?_, fun hv hfits => ?_, fun hv hfits => ?_, fun hv hfits => ?_, fun hv hfits => ?_,
    fun hv hfits => ?_⟩
  · constructor <;> exact exists_exec_write_of_inRange rfl h3 hv hfits
  · constructor <;> exact exists_exec_write_of_inRange rfl h3 hv hfits
  · constructor <;> exact exists_exec_write_of_inRange rfl h5 hv hfits
  · constructor <;> exact exists_exec_write_of_inRange rfl h5 hv hfits
  · constructor <;> exact exists_exec_write_of_inRange rfl h6 hv hfits
  · constructor <;> exact exists_exec_write_of_inRange rfl h6 hv hfits

/-- Settles O23: each of the eight instructions is a write of seven or eight bytes; no guard is part of a write (R119). -/
theorem wideWritesAnswer : Obligations.WideWritesAnswer := by
  unfold Obligations.WideWritesAnswer
  intro n v o s
  have h7 : Supported 7 := by decide
  have h8 : Supported 8 := by decide
  refine ⟨fun hv hfits => ?_, fun hv hfits => ?_, fun hv hfits => ?_, fun hv hfits => ?_⟩
  · constructor <;> exact exists_exec_write_of_inRange rfl h7 hv hfits
  · constructor <;> exact exists_exec_write_of_inRange rfl h7 hv hfits
  · constructor <;> exact exists_exec_write_of_inRange rfl h8 hv hfits
  · constructor <;> exact exists_exec_write_of_inRange rfl h8 hv hfits

/-! ### The maximum pattern -/

theorem getElem?_signedMaxBE {w i : Nat} (hi : i < w) :
    (signedMaxBE w)[i]? = some (if i = 0 then 0x7F#8 else 0xFF#8) := by
  cases i with
  | zero => rfl
  | succ i => simp only [signedMaxBE, List.getElem?_cons_succ, List.getElem?_replicate_of_lt (show i < w - 1 by omega),
      if_neg (Nat.succ_ne_zero i)]

theorem length_signedMaxBE {w : Nat} (hw : 1 ≤ w) : (signedMaxBE w).length = w :=
  length_maxPattern hw .be .signed

/-- The bytes of the maximum pattern: 7f at the most significant place of a signed one, ff everywhere else (R120). -/
theorem getElem?_maxPattern {w i : Nat} (hi : i < w) (e : Endian) (sg : Signedness) :
    (maxPattern w e sg)[i]? =
      some (if sg = .signed ∧ i = (match e with | .be => 0 | .le => w - 1) then 0x7F#8 else 0xFF#8) := by
  cases sg
  case unsigned =>
    have hpattern : maxPattern w e .unsigned = List.replicate w 0xFF#8 := by cases e <;> rfl
    rw [hpattern, List.getElem?_replicate_of_lt hi, if_neg (by simp)]
  case signed =>
    have hlen : (signedMaxBE w).length = w := length_signedMaxBE (by omega)
    cases e
    case be => simp only [maxPattern, getElem?_signedMaxBE hi, true_and]
    case le =>
      have hplace : w - 1 - i = 0 ↔ i = w - 1 := by omega
      simp only [maxPattern, List.getElem?_reverse (hlen.symm ▸ hi), hlen,
        getElem?_signedMaxBE (show w - 1 - i < w by omega), hplace, true_and]

/-- Settles O26: the pattern is the string a write of the maximum stores, and its bytes are the literal ones. -/
theorem maximumHasTheLiteralPattern : Obligations.MaximumHasTheLiteralPattern := by
  unfold Obligations.MaximumHasTheLiteralPattern
  intro w e sg o i hw hi
  refine ⟨?_, getElem?_maxPattern hi e sg⟩
  rw [maxPattern_eq hw, getElem?_bytesOf_patternOf hi e o]

/-! ### Values at or above the maximum -/

/-- A value that saturates is written as the maximum (R120). -/
theorem encodeInt_of_saturates {w : Nat} (hw : w = 7 ∨ w = 8) (e : Endian) {sg : Signedness} (o : Int) {v : Int}
    (m : Memory) (hv : maxVal w sg ≤ v) : encodeInt w e sg o v m = natWrite o w e (maxVal w sg) m := by
  rw [encodeInt, if_neg (by omega), if_pos ⟨by omega, hv⟩, maxPattern_eq hw, natWrite]

/-- A lenient write of a value that saturates succeeds, stores the maximum and does nothing else (R68, R120). -/
theorem exists_exec_write_of_saturates {i : Instr} {s : State} (hwrite : i.isWrite) (hmode : i.fields.mode = .lenient)
    (hw : i.fields.width = 7 ∨ i.fields.width = 8) (hv : maxVal i.fields.width i.fields.sgn ≤ i.fields.value) :
    ∃ t, exec i s = .next t ∧
      Writes i.fields.width i.fields.endian i.fields.offset (maxVal i.fields.width i.fields.sgn) s t := by
  refine ⟨_, ?_, writes_natWrite _ _ _ _ s⟩
  rw [exec_eq_effect, effectOf_write (by omega) hwrite, writeEffect, if_neg (passes_bounds_check (.inl hmode)),
    if_neg (passes_bounds_check (.inl hmode)), if_pos (.inr ⟨by omega, hv⟩), encodeInt_of_saturates hw _ _ _ hv,
    State.afterEffect]

/-- Settles O25: each of the eight instructions is a lenient write of seven or eight bytes. -/
theorem lenientWritesSaturate : Obligations.LenientWritesSaturate := by
  unfold Obligations.LenientWritesSaturate
  intro v o s
  have h7 : 7 = 7 ∨ 7 = 8 := .inl rfl
  have h8 : 8 = 7 ∨ 8 = 8 := .inr rfl
  refine ⟨fun hv => ?_, fun hv => ?_, fun hv => ?_, fun hv => ?_⟩
  · constructor <;> exact exists_exec_write_of_saturates rfl rfl h7 hv
  · constructor <;> exact exists_exec_write_of_saturates rfl rfl h7 hv
  · constructor <;> exact exists_exec_write_of_saturates rfl rfl h8 hv
  · constructor <;> exact exists_exec_write_of_saturates rfl rfl h8 hv

end Sys2Proof.Machine
end

section
/-! The failures (R167 to R177): which one a command reports, that raising it does nothing but set the response, that the next
command cannot tell it has happened, and that a step stops for nothing else than a misuse by the host. -/
namespace Sys2Proof.Machine

/-! ### The order of the failures -/

/-- The checks of a read, in the order of R175. -/
theorem status_readEffect {f : Fields} (hw : Supported f.width) (hread : f.dir = .read) (s : State) :
    (readEffect f s.buf).response.status = firstFailure f s := by
  have hvalue : ¬ (f.dir = .write ∧ f.mode = .strict ∧ ¬ InRange f.width f.sgn f.value) := by simp [hread]
  rw [readEffect, decodeInt_eq_flatValue hw, firstFailure, if_neg (not_not_intro hw), if_neg hvalue]
  simp only [hread, true_and]
  split_ifs
  · rfl
  · rfl
  · rfl

/-- The checks of a write, in the order of R175. -/
theorem status_writeEffect {f : Fields} (hw : Supported f.width) (hwrite : f.dir = .write) (s : State) :
    (writeEffect f s.buf).response.status = firstFailure f s := by
  have hguard : ¬ (f.dir = .read ∧ TooLarge (flatValue f.width f.endian f.sgn f.offset s.buf)) := by simp [hwrite]
  rw [writeEffect, firstFailure, if_neg (not_not_intro hw), if_neg hguard]
  simp only [hwrite, true_and]
  split_ifs
  · rfl
  · rfl
  · rfl
  · rfl

/-- A command reports the first failure that applies to its fields (R175). -/
theorem status_effectOf (f : Fields) (s : State) : (effectOf f s.buf).response.status = firstFailure f s := by
  by_cases hw : Supported f.width
  case neg => rw [effectOf_of_unsupported hw, firstFailure, if_pos hw, Effect.response]
  cases hdir : f.dir
  case read => rw [effectOf_read hw hdir, status_readEffect hw hdir]
  case write => rw [effectOf_write hw hdir, status_writeEffect hw hdir]

/-- Settles O31: every command answers with the status of its effect, the first failure of its fields. -/
theorem statusIsTheFirstFailure : Obligations.StatusIsTheFirstFailure := by
  unfold Obligations.StatusIsTheFirstFailure
  intro i s
  refine ⟨_, exec_eq_effect i s, ?_⟩
  rw [afterEffect_response, Option.map_some, status_effectOf]

/-! ### After a failure -/

/-- Of the effects only a failure has a failure for its response (R55). -/
theorem eq_fails_of_response {e : Effect} {f : Failure} {x : Option (BitVec 64)}
    (h : e.response = { status := .failed f, rval := x }) : e = .fails f := by
  cases e with
  | fails g => cases h; rfl
  | gives y => cases h
  | stores m => cases h
  | draws o w => cases h

/-- A command whose response is a failure has raised it and done nothing else (R167). -/
theorem eq_afterFailure_of_exec {i : Instr} {s t : State} {f : Failure} {x : Option (BitVec 64)}
    (h : exec i s = .next t) (hfail : t.response = some { status := .failed f, rval := x }) : t = s.afterFailure f := by
  have ht := eq_afterEffect_of_exec h
  rw [ht, afterEffect_response, Option.some.injEq] at hfail
  rw [ht, eq_fails_of_response hfail]
  rfl

/-- Settles O32. -/
theorem failureChangesNothingElse : Obligations.FailureChangesNothingElse := by
  unfold Obligations.FailureChangesNothingElse
  exact fun _ _ _ _ _ h hfail => eq_afterFailure_of_exec h hfail

/-- An effect takes the failure on the ports off them and depends on nothing a failure changes (R169). -/
theorem afterFailure_afterEffect (s : State) (f : Failure) (e : Effect) :
    (s.afterFailure f).afterEffect e = s.afterEffect e := by
  cases e <;> rfl

/-- A command runs after a failure as if there had been none (R169). -/
theorem exec_afterFailure (j : Instr) (s : State) (f : Failure) : exec j (s.afterFailure f) = exec j s := by
  have hbuf : (s.afterFailure f).buf = s.buf := rfl
  rw [exec_eq_effect, exec_eq_effect, hbuf, afterFailure_afterEffect]

/-- Settles O33: the failure again is the case in which the next command is the same one. -/
theorem failureLeavesNoTrace : Obligations.FailureLeavesNoTrace := by
  unfold Obligations.FailureLeavesNoTrace
  intro i j s t f x h hfail
  have hsame (k : Instr) : exec k t = exec k s := by rw [eq_afterFailure_of_exec h hfail, exec_afterFailure]
  exact ⟨hsame j, (hsame i).trans h⟩

/-! ### What stops a step -/

/-- An event is answered, or it is one of the two the host must not bring about (R170, R177). -/
theorem takeEvent_cases (ev : HostEvent) (s : State) :
    (∃ t, takeEvent ev s = .next t) ∨
    (∃ bs, ev = .present bs ∧ Config.maxBufLen < bs.length ∧ takeEvent ev s = .refused .bufferTooLong) ∨
    (∃ k b, ev = .store k b ∧ s.buf.bufLen ≤ k ∧ takeEvent ev s = .refused .hostStoreOutsideBuffer) := by
  cases ev with
  | command r => exact .inl ⟨_, exec_eq_effect (decode r) s⟩
  | present bs =>
    obtain ⟨-, h⟩ | ⟨hlen, h⟩ := hostPresent_cases bs s
    · exact .inl ⟨_, h⟩
    · exact .inr (.inl ⟨bs, rfl, hlen, h⟩)
  | store k b =>
    obtain ⟨-, h⟩ | ⟨hk, h⟩ := hostStore_cases k b s
    · exact .inl ⟨_, h⟩
    · exact .inr (.inr ⟨k, b, rfl, hk, h⟩)
  | reset => exact .inl ⟨_, rfl⟩
  | abandon r =>
    have hexec := congrArg (abandonCommand · s) (exec_eq_effect (decode r) s)
    exact .inl ⟨_, hexec.trans (abandonCommand_next _ s)⟩

/-- Settles O55: an idle step is answered, and any other does what the host's next event does. -/
theorem stepStopsOnlyOnHostMisuse : Obligations.StepStopsOnlyOnHostMisuse := by
  unfold Obligations.StepStopsOnlyOnHostMisuse
  intro s
  cases hhost : s.host with
  | nil => exact .inl ⟨_, step_of_idle hhost⟩
  | cons ev rest =>
    rw [step_of_event hhost]
    obtain hnext | ⟨bs, rfl, hlen, h⟩ | ⟨k, b, rfl, hk, h⟩ := takeEvent_cases ev (s.afterEvent rest)
    · exact .inl hnext
    · exact .inr (.inl ⟨bs, rest, rfl, hlen, h⟩)
    · exact .inr (.inr ⟨k, b, rest, rfl, hk, h⟩)

end Sys2Proof.Machine
end

section
/-! Reset during a command (R182): a command keeps the cells' indices, so the abandoned buffer is settled cell by cell between
the buffer before the command and the one the command would have left. -/
namespace Sys2Proof.Machine

/-! ### The indices of the cells -/

/-- Whichever codec it takes, a write stores one byte string at its offset. -/
theorem exists_encodeInt_eq_memWrite {w : Nat} (hw : Supported w) (e : Endian) (sg : Signedness) (o v : Int)
    (m : Memory) : ∃ bs, encodeInt w e sg o v m = memWrite o bs m := by
  unfold encodeInt
  split_ifs with hn hsat
  · exact ⟨_, rfl⟩
  · exact ⟨_, rfl⟩
  · exact ⟨_, encodeSplit_eq (highWidth_add_lowWidth hw hn) e o v m⟩

/-- No command changes the indices of the cells, in a canonical buffer or any other. -/
theorem exec_map_fst {i : Instr} {s t : State} (h : exec i s = .next t) :
    t.buf.map Prod.fst = s.buf.map Prod.fst := by
  rw [eq_afterEffect_of_exec h]
  obtain ⟨x, he⟩ | ⟨-, x, -, he⟩ | ⟨-, hw, he⟩ | ⟨-, he⟩ := effectOf_cases i.fields s.buf <;> rw [he]
  · rfl
  · rfl
  · obtain ⟨bs, hbs⟩ := exists_encodeInt_eq_memWrite hw i.fields.endian i.fields.sgn i.fields.offset i.fields.value s.buf
    rw [hbs]
    exact map_fst_memWrite _ bs s.buf
  · exact map_fst_memWrite _ _ s.buf

/-! ### The settled buffer -/

/-- Each cell of a settled buffer is the old or the new one (R182). -/
theorem cellAt_settle_cases {old new : Memory} (h : new.map Prod.fst = old.map Prod.fst) (k : Nat) (a : Int) :
    cellAt (settle k old new) a = cellAt old a ∨ cellAt (settle k old new) a = cellAt new a := by
  by_cases ha : 0 ≤ a
  case neg => exact .inl (by rw [cellAt, cellAt, if_neg ha, if_neg ha])
  simp only [cellAt, if_pos ha, find_settle h]
  split_ifs
  · exact .inr rfl
  · exact .inl rfl

/-- A cell that is the same in both buffers is settled as it was. -/
theorem cellAt_settle_of_eq {old new : Memory} (h : new.map Prod.fst = old.map Prod.fst) (k : Nat) {a : Int}
    (ha : cellAt new a = cellAt old a) : cellAt (settle k old new) a = cellAt old a := by
  obtain hold | hnew := cellAt_settle_cases h k a
  · exact hold
  · exact hnew.trans ha

/-! ### The abandoned command -/

/-- A step in which the command is abandoned settles the buffer between the one before it and the one it would have left. -/
theorem step_of_abandon {r : Request} {rest : List HostEvent} {s u : State} (hhost : s.host = .abandon r :: rest)
    (hexec : exec (decode r) (s.afterEvent rest) = .next u) :
    step s = .next { s.afterEvent rest with
      buf := settle u.draws s.buf u.buf, draws := u.draws + s.buf.bufLen, response := none } := by
  rw [step_of_event hhost, takeEvent, hexec, abandonCommand_next, afterEvent_buf]

/-- Settles O52: every cell is settled between its old and its new value, and the frame of the command says which of them it
leaves alone. -/
theorem resetDuringCommand : Obligations.ResetDuringCommand := by
  unfold Obligations.ResetDuringCommand
  intro r rest s hhost
  have hexec := exec_eq_effect (decode r) (s.afterEvent rest)
  have hindices := exec_map_fst hexec
  refine ⟨_, _, hexec, step_of_abandon hhost hexec, rfl, rfl, length_settle (exec_bufLen hexec) _,
    cellAt_settle_cases hindices _, fun hread a => ?_, fun a ha => ?_⟩
  · exact cellAt_settle_of_eq hindices _ (by rw [exec_buf_of_isRead hexec hread])
  · exact cellAt_settle_of_eq hindices _ (exec_cellAt_outside hexec ha)

end Sys2Proof.Machine
end
